-- ==== Sys2Proof/Word.lean ====
section
/-! DEFINITION. The plain bit-vector types of the part's buses and records. -/

namespace Sys2Proof

/-- One byte of memory or of a coupler frame. -/
abbrev Byte := BitVec 8

/-- One aligned word of the desk bus and the memory bus. -/
abbrev Word := BitVec 32

/-- A desk byte address (00_scope.md section 5: 26 bits, 64 MiB). -/
abbrev Addr := BitVec 26

/-- One of the four Line Ports. -/
abbrev PortNo := Fin 4

end Sys2Proof
end

