-- ==== Sys2Proof/Syntax.lean ====
section
/-! DEFINITION. The commands of the part: one constructor of `Instr` per row of spec/opcode_table.json, in the table's order.

The first operand `t` of every command is the value of the 1 µs timebase at which it is taken (log 1).
`p` is the port a command is about. -/

namespace Sys2Proof

/-- One access of the desk bus (00_scope.md section 8, R3): address, direction, four byte enables, write data. -/
structure DeskAccess where
  addr : Addr
  write : Bool
  enables : BitVec 4
  data : Word
deriving DecidableEq, Repr

/-- The causes a coupler gives with FAIL (R111, R184). -/
inductive FailCause
  | busy
  | noAnswer
  | noDialtone
deriving DecidableEq, Repr

/-- The commands. -/
inductive Instr
  /-- R18: power-on begins. -/
  | powerOn (t : Nat)
  /-- R18: RESET falls; `made` accesses of the unit in progress have been made (log 6). -/
  | warmReset (t : Nat) (made : Nat)
  /-- R2, R18, R69: the reset ends with these strap, cover and home switch levels. -/
  | resetRelease (t : Nat) (straps : BitVec 3) (coverOpen homeClosed : Bool)
  /-- R3: an access arrives on the desk bus. -/
  | deskAccess (t : Nat) (a : DeskAccess)
  /-- R14: the idle arbiter grants. -/
  | arbiterGrant (t : Nat)
  /-- R4: a forwarded desk write with no watched effect completes. -/
  | deskWrite (t : Nat)
  /-- R8: a forwarded posting write completes. -/
  | postWordWrite (t : Nat)
  /-- R9: a forwarded write that frees a slip slot completes. -/
  | markWordWrite (t : Nat)
  /-- R11: a forwarded load event completes. -/
  | loadWordWrite (t : Nat)
  /-- R11, R176: a forwarded write of the clear word completes. -/
  | clearWordWrite (t : Nat)
  /-- R7: a check upkeep unit ends; `composed` gives for each port how many positions of its frame in transfer it had composed (log 10). -/
  | checkUpkeepUnitEnd (t : Nat) (composed : List Nat)
  /-- R82: a scan line write unit ends. -/
  | scanLineWriteEnd (t : Nat)
  /-- R41: a line fetch unit ends. -/
  | lineFetchEnd (t : Nat)
  /-- R44: a trailer flag unit ends. -/
  | trailerFlagUnitEnd (t : Nat)
  /-- R91: the idle intake reader takes a slot. -/
  | intakeReaderTake (t : Nat)
  /-- R91: a job record read or caption read unit ends. -/
  | jobRecordReadEnd (t : Nat)
  /-- R95: the last read unit of a SCAN job ends and the job is taken (log 8). -/
  | scan (t : Nat)
  /-- R96: the same for SEND. -/
  | send (t : Nat)
  /-- R107: the same for ABORT-JOB. -/
  | abortJob (t : Nat)
  /-- R108: the same for ABORT-PICTURE. -/
  | abortPicture (t : Nat)
  /-- R30: the same for RELEASE-PICTURE. -/
  | releasePicture (t : Nat)
  /-- R105: the same for HOLD-PORT. -/
  | holdPort (t : Nat)
  /-- R106: the same for RESUME-PORT. -/
  | resumePort (t : Nat)
  /-- R91: the result word write ends. -/
  | resultWordWriteEnd (t : Nat)
  /-- R52, R53: a tach pulse. -/
  | tachPulse (t : Nat)
  /-- R54, R67: an index pulse. -/
  | indexPulse (t : Nat)
  /-- R75: a sample falls due. -/
  | conversionRequest (t : Nat)
  /-- R75: the converter answers with a 12-bit code. -/
  | codeReady (t : Nat) (code : BitVec 12)
  /-- R56. -/
  | stallTimerExpiry (t : Nat)
  /-- R57. -/
  | spinUpTimerExpiry (t : Nat)
  /-- R57. -/
  | slipTimerExpiry (t : Nat)
  /-- R58. -/
  | idleSpinTimerExpiry (t : Nat)
  /-- R59. -/
  | coastTimerExpiry (t : Nat)
  /-- R60: the cover opens. -/
  | coverOpen (t : Nat)
  /-- R60: the cover closes. -/
  | coverClose (t : Nat)
  /-- R62: the lamp settle timer expires. -/
  | settleTimerExpiry (t : Nat)
  /-- R65: a reverse step falls due. -/
  | homingStep (t : Nat)
  /-- R65, R68: the home switch closes. -/
  | homeSwitchClose (t : Nat)
  /-- R65: no switch 500 µs after the 40,000th step. -/
  | homingLimitExpiry (t : Nat)
  /-- R66: a forward step falls due. -/
  | carriageStep (t : Nat)
  /-- R74: the start limit timer expires. -/
  | startLimitTimerExpiry (t : Nat)
  /-- R111, R113: the frame in transfer on port p's link reaches its end. -/
  | frameTransferEnd (t : Nat) (p : PortNo)
  /-- R112, R131: UP. -/
  | up (t : Nat) (p : PortNo)
  /-- R112, R131: FAIL. -/
  | fail (t : Nat) (p : PortNo) (cause : FailCause)
  /-- R113: DONE of the ITEM kind. -/
  | doneItem (t : Nat) (p : PortNo)
  /-- R114: DONE of the FLUSH kind. -/
  | doneFlush (t : Nat) (p : PortNo)
  /-- R115: SLACK. -/
  | slack (t : Nat) (p : PortNo)
  /-- R123, R124, R184: HEARD with signal code, duration in ms and the data bytes after it. -/
  | heard (t : Nat) (p : PortNo) (code : Byte) (duration : BitVec 16) (data : List Byte)
  /-- R132: READY of sufficient length (log 9), with its data as R184 lays them out. -/
  | ready (t : Nat) (p : PortNo) (rpm : Byte) (ioc : BitVec 16) (capable : Bool)
  /-- R134: PHASED (log 9). -/
  | phased (t : Nat) (p : PortNo)
  /-- R139: GOOD-A (log 9). -/
  | goodA (t : Nat) (p : PortNo)
  /-- R139: GOOD-B (log 9). -/
  | goodB (t : Nat) (p : PortNo)
  /-- R140: AGAIN (log 9). -/
  | again (t : Nat) (p : PortNo)
  /-- R140: WAIT (log 9). -/
  | wait (t : Nat) (p : PortNo)
  /-- R142: RECEIPT (log 9). -/
  | receipt (t : Nat) (p : PortNo) (number : BitVec 32)
  /-- R143: HANG (log 9). -/
  | hang (t : Nat) (p : PortNo)
  /-- R112, R143: DROP of the CARRIER kind. -/
  | dropCarrier (t : Nat) (p : PortNo)
  /-- R112: DROP of the ON-HOOK kind. -/
  | dropOnHook (t : Nat) (p : PortNo)
  /-- R184: a report frame the port discards. -/
  | reportDiscarded (t : Nat) (p : PortNo) (frame : List Byte)
  /-- R112: the 60 s release timer expires. -/
  | releaseTimerExpiry (t : Nat) (p : PortNo)
  /-- R131. -/
  | seizeTimerExpiry (t : Nat) (p : PortNo)
  /-- R132. -/
  | readyTimerExpiry (t : Nat) (p : PortNo)
  /-- R134. -/
  | phasedTimerExpiry (t : Nat) (p : PortNo)
  /-- R138. -/
  | verdictTimerExpiry (t : Nat) (p : PortNo)
  /-- R140. -/
  | waitTimerExpiry (t : Nat) (p : PortNo)
  /-- R141. -/
  | quietTimerExpiry (t : Nat) (p : PortNo)
  /-- R142. -/
  | receiptTimerExpiry (t : Nat) (p : PortNo)
  /-- R160: a slip record write ends. -/
  | slipRecordWriteEnd (t : Nat)
  /-- R167: a setup part read ends. -/
  | setupPartReadEnd (t : Nat)
  /-- R167, R172: the load result write ends. -/
  | loadResultWriteEnd (t : Nat)
  /-- R173: a status record write ends. -/
  | statusRecordWriteEnd (t : Nat)
  /-- R171: the desk clock's second is up. -/
  | deskClockSecond (t : Nat)
  /-- R3: a forwarded desk read completes. -/
  | deskRead (t : Nat)
  /-- R65, R68: the home switch opens. -/
  | homeSwitchOpen (t : Nat)
deriving DecidableEq, Repr

end Sys2Proof
end

