-- ==== Sys2Proof/Machine/LinkReports.lean ====
section
/-! DEFINITION. Report frames of a coupler link as bytes (R184), and the far signals a HEARD report carries (R123). -/

namespace Sys2Proof.Machine

/-- The number a little-endian run of bytes spells (R178: least significant byte first). -/
def leNat : List Byte → Nat
  | [] => 0
  | b :: bs => b.toNat + 256 * leNat bs

/-- A report frame the port takes (R111, R184). -/
inductive Report
  | up
  | fail (cause : FailCause)
  | doneItem
  | doneFlush
  | slack
  | heard (code : Byte) (duration : BitVec 16) (data : List Byte)
  | dropCarrier
  | dropOnHook
deriving DecidableEq, Repr

/-- R184: the report a frame spells, or none where the port discards the frame: an unknown type, a wrong length, or a FAIL, DONE
or DROP code byte outside the codes listed. A HEARD needs at least 4 bytes; its data are the bytes after the duration. -/
def reportOf (frame : List Byte) : Option Report :=
  match frame with
  | [] => none
  | ty :: rest =>
    match ty.toNat, rest with
    | 0x81, [] => some .up
    | 0x82, [c] =>
      if c = 1 then some (.fail .busy) else if c = 2 then some (.fail .noAnswer)
      else if c = 3 then some (.fail .noDialtone) else none
    | 0x83, [c] => if c = 0 then some .doneItem else if c = 1 then some .doneFlush else none
    | 0x84, [] => some .slack
    | 0x85, c :: lo :: hi :: data => some (.heard c (hi ++ lo) data)
    | 0x86, [c] => if c = 0 then some .dropCarrier else if c = 1 then some .dropOnHook else none
    | _, _ => none

/-- The eight far signals, each with the data a valid report of it carries (R123). -/
inductive FarSignal
  | ready (rpm : Nat) (ioc : Nat) (capable : Bool)
  | phased
  | goodA
  | goodB
  | again
  | wait
  | receipt (number : Nat)
  | hang
deriving DecidableEq, Repr

/-- R123: an rpm a READY may declare. -/
def validRpm (rpm : Nat) : Bool := rpm = 60 || rpm = 90 || rpm = 120

/-- R123: the greatest receipt number. -/
def maxReceipt : Nat := 999999

/-- Conditions 2 and 3 of R124: the far signal a HEARD report's code and data spell, or none where the code is not one of the eight
or the data are not those the code requires in length (R184) and value (R123). R184 codes a READY's caption capable byte as 0 and 1, and
the spec does not say how another value is judged: the model holds such data invalid (log 47). -/
def signalOf (code : Byte) (data : List Byte) : Option FarSignal :=
  match code.toNat, data with
  | 1, [rpm, lo, hi, cap] =>
    if validRpm rpm.toNat && (cap = 0 || cap = 1) then some (.ready rpm.toNat (leNat [lo, hi]) (cap = 1)) else none
  | 2, [] => some .phased
  | 3, [] => some .goodA
  | 4, [] => some .goodB
  | 5, [] => some .again
  | 6, [] => some .wait
  | 7, [a, b, c, d] => if leNat [a, b, c, d] ≤ maxReceipt then some (.receipt (leNat [a, b, c, d])) else none
  | 8, [] => some .hang
  | _, _ => none

end Sys2Proof.Machine
end

