-- ==== Sys2Proof/WellFormed.lean ====
section
/-! DEFINITION. Which commands are well formed: those whose operands are what their row's event can carry.

exec gives an ill-formed command the effect the spec gives the event it really is: a READY or RECEIPT with invalid data is a HEARD
report that fails condition 3 of R124; a report frame that R184 takes is not a discarded one and is no event (log 2). -/

namespace Sys2Proof

/-- The checks on a command's operands. -/
def Instr.wellFormed : Instr → Bool
  -- R123: a valid READY declares 60, 90 or 120 rpm
  | .ready _ _ rpm _ _ => Machine.validRpm rpm.toNat
  -- R123: a valid RECEIPT carries 0 to 999999
  | .receipt _ _ number => decide (number.toNat ≤ Machine.maxReceipt)
  -- R184: the frame is one the port discards
  | .reportDiscarded _ _ frame => (Machine.reportOf frame).isNone
  -- log 10: one count of composed positions for each port
  | .checkUpkeepUnitEnd _ composed => composed.length = 4
  | .powerOn _ | .warmReset _ _ | .resetRelease _ _ _ _ | .deskAccess _ _ | .arbiterGrant _ | .deskWrite _ | .postWordWrite _
  | .markWordWrite _ | .loadWordWrite _ | .clearWordWrite _ | .scanLineWriteEnd _ | .lineFetchEnd _ | .trailerFlagUnitEnd _
  | .intakeReaderTake _ | .jobRecordReadEnd _ | .scan _ | .send _ | .abortJob _ | .abortPicture _ | .releasePicture _
  | .holdPort _ | .resumePort _ | .resultWordWriteEnd _ | .tachPulse _ | .indexPulse _ | .conversionRequest _ | .codeReady _ _
  | .stallTimerExpiry _ | .spinUpTimerExpiry _ | .slipTimerExpiry _ | .idleSpinTimerExpiry _ | .coastTimerExpiry _
  | .coverOpen _ | .coverClose _ | .settleTimerExpiry _ | .homingStep _ | .homeSwitchClose _ | .homingLimitExpiry _
  | .carriageStep _ | .startLimitTimerExpiry _ | .frameTransferEnd _ _ | .up _ _ | .fail _ _ _ | .doneItem _ _ | .doneFlush _ _
  | .slack _ _ | .heard _ _ _ _ _ | .phased _ _ | .goodA _ _ | .goodB _ _ | .again _ _ | .wait _ _ | .hang _ _
  | .dropCarrier _ _ | .dropOnHook _ _ | .releaseTimerExpiry _ _ | .seizeTimerExpiry _ _ | .readyTimerExpiry _ _
  | .phasedTimerExpiry _ _ | .verdictTimerExpiry _ _ | .waitTimerExpiry _ _ | .quietTimerExpiry _ _ | .receiptTimerExpiry _ _
  | .slipRecordWriteEnd _ | .setupPartReadEnd _ | .loadResultWriteEnd _ | .statusRecordWriteEnd _ | .deskClockSecond _
  | .deskRead _ | .homeSwitchOpen _ => true

end Sys2Proof
end

