-- ==== Sys2Proof/Config.lean ====
section
/-! DEFINITION. What the spec leaves open as a value: free values, with no body, so that nothing in Lean can know them. -/

namespace Sys2Proof

/-- A byte of a status record whose value no rule states (log 18): the picture, line and trailer address of the first-error latch
record while the latch is empty, and the current band of a port that has no session. The arguments are the record's number, the
byte's offset in the record and the record's rewrite count. -/
opaque Config.freeStatusByte (record offset rewrites : Nat) : Byte

end Sys2Proof
end

