-- ==== Sys2Proof/Machine/State.lean ====
section
/-! DEFINITION. The state of the part: every block's own state as the spec names it, as plain data, and the state after reset.

Counts, times, indexes and lengths are natural numbers; what the spec treats as bits is a bit vector. A timer is none while stopped
and holds its expiry time while running. The default value of a field is its value after reset (INVENTORY.md, State). -/

namespace Sys2Proof.Machine

/-! ### Memory Path (chapter 1) -/

/-- Memory: (address, byte) pairs, addresses rising, no entry equal to what an unlisted address reads as. -/
abbrev Memory := List Host.Cell

/-- The bytes one memory access writes, each with its address; a read writes none. -/
abbrev Access := List Host.Cell

/-- R1: the kind of a window table entry. -/
inductive WindowKind
  | off
  | picture
  | jobs
  | slips
  | status
deriving DecidableEq, Repr

/-- R1: one entry of the window table. -/
structure WindowEntry where
  kind : WindowKind := .off
  base : Nat := 0
  size : Nat := 0
deriving DecidableEq, Repr

/-- R8, R9, R11: what a forwarded desk write raises when it completes. -/
inductive WatchEvent
  /-- nothing: a plain write -/
  | plain
  /-- R8: a posting event for the job slot -/
  | post (slot : Nat)
  /-- R9: the slip slot is taken -/
  | mark (slot : Nat)
  /-- R11: a load event -/
  | load
  /-- R11: a clear event naming these classes (bit c names class c) -/
  | clear (classes : BitVec 9)
deriving DecidableEq, Repr

/-- R12: the dropped-write counters. -/
structure DropCounters where
  trailer : Nat := 0
  collision : Nat := 0
  status : Nat := 0
deriving DecidableEq, Repr

/-- R3, R18: the desk's side of the path: the access it is held on, and the data its last read returned. -/
structure Desk where
  access : Option DeskAccess := none
  data : Word := 0
deriving DecidableEq, Repr

/-! ### Picture Store (chapter 2) -/

/-- R19: one entry of the slot table. -/
structure SlotEntry where
  base : Nat := 0
  size : Nat := 0
deriving DecidableEq, Repr

/-- R24: picture states. -/
inductive PicState
  | empty
  | scanning
  | complete
  | cut
deriving DecidableEq, Repr

/-- R23, R27: cut causes. -/
inductive CutCause
  | noCause
  | drumFault
  | referenceLost
  | aborted
deriving DecidableEq, Repr

/-- R23: a picture record. Its default value is the EMPTY record. -/
structure PictureRecord where
  state : PicState := .empty
  tag : BitVec 32 := 0
  ioc : Nat := 0
  samples : Nat := 0
  picSamples : Nat := 0
  stride : Nat := 0
  lines : Nat := 0
  mark : Nat := 0
  rpm : Nat := 0
  cause : CutCause := .noCause
  refs : Nat := 0
  collisionDrops : Nat := 0
  alteredWrites : Nat := 0
  heldLines : Nat := 0
  checkErrors : Nat := 0
deriving DecidableEq, Repr

/-! ### Line Store (chapter 3) -/

/-- R36: way states. -/
inductive WayState
  | invalid
  | filling
  | valid
deriving DecidableEq, Repr

/-- R36, R39: one way. The pin count is the number of ports marked in `pins`: a port pins a way at most once. -/
structure Way where
  state : WayState := .invalid
  pic : Fin 16 := 0
  line : Nat := 0
  bytes : List Byte := []
  pins : Vector Bool 4 := Vector.replicate 4 false
deriving DecidableEq, Repr

/-- R36: one set: way 0, way 1, and the LRU bit (false names way 0). -/
structure LineSet where
  way0 : Way := {}
  way1 : Way := {}
  lru : Bool := false
deriving DecidableEq, Repr

/-- R44, R45: a failed line: picture, line, trailer address. -/
structure LineFailure where
  pic : Fin 16
  line : Nat
  trailer : Nat
deriving DecidableEq, Repr

/-- R36, R44, R45, R46: the Line Store. -/
structure LineStore where
  sets : Vector LineSet 16 := Vector.replicate 16 {}
  heldFailure : Option LineFailure := none
  latch : Option LineFailure := none
  checkErrors : Nat := 0
deriving DecidableEq, Repr

/-- R40, R41: how a port's line request waits. -/
inductive WaitForm
  /-- its line fetch request stands at the arbiter -/
  | fetching
  /-- its line fetch is granted and has not ended -/
  | granted
  /-- it has joined another port's fetch -/
  | joined
deriving DecidableEq, Repr

/-- R40: a port's waiting request. -/
structure LineWait where
  pic : Fin 16
  line : Nat
  form : WaitForm
deriving DecidableEq, Repr

/-! ### Drum Drive (chapter 4) -/

/-- R50: drum states. -/
inductive DrumState
  | stopped
  | spinUp
  | locked
  | slipped
  | stopping
  | fault
deriving DecidableEq, Repr

/-- R50: fault causes. -/
inductive FaultCause
  | noFault
  | stall
  | spinUp
  | slip
  | cover
  | carriage
deriving DecidableEq, Repr

/-- R62: lamp states. -/
inductive Lamp
  | off
  | warming
  | ready
deriving DecidableEq, Repr

/-- R63, R65: carriage states. -/
inductive Carriage
  | unknown
  /-- stepping in reverse since a time, with so many steps issued -/
  | homing (since : Nat) (steps : Nat)
  | known (position : Nat)
deriving DecidableEq, Repr

/-- R50, R62, R63: the Drum Controller. -/
structure Drum where
  state : DrumState := .stopped
  cause : FaultCause := .noFault
  target : Option Nat := none
  scanHeld : Bool := false
  duty : Nat := 0
  integral : Int := 0
  lastTach : Option Nat := none
  lastIndex : Option Nat := none
  tMeas : Nat := 0
  goodRun : Nat := 0
  coverOpen : Bool := false
  stall : Option Nat := none
  spinUp : Option Nat := none
  slip : Option Nat := none
  idleSpin : Option Nat := none
  coast : Option Nat := none
  /-- R67: the state after the decision of the previous index pulse, none before the first since entry to SPINUP -/
  pulseState : Option DrumState := none
  lamp : Lamp := .off
  settle : Option Nat := none
  carriage : Carriage := .unknown
  fraction : Nat := 0
  advance : Nat := 0
  /-- R66: the times of the forward steps not yet issued -/
  steps : List Nat := []
  homeClosed : Bool := false
deriving DecidableEq, Repr

/-! ### Scan Pipeline (chapter 5) -/

/-- R70: scan states. -/
inductive ScanState
  | idle
  | starting
  | running
deriving DecidableEq, Repr

/-- R75: a revolution in progress. `codes` has one entry for each position fallen due: the code received, or none. -/
structure Revolution where
  start : Nat
  period : Nat
  codes : List (Option (BitVec 12)) := []
  opened : Bool
deriving DecidableEq, Repr

/-- R75: the conversion request outstanding, and whether the revolution it belongs to still runs (log 15). -/
structure ConvRequest where
  position : Nat
  current : Bool
deriving DecidableEq, Repr

/-- R83: a member awaited at a live hold, with its wait count once started. -/
structure Awaited where
  port : PortNo
  count : Option Nat := none
deriving DecidableEq, Repr

/-- R70, R81: the line entry of a FULL buffer. -/
structure LineEntry where
  scanId : Nat
  pic : Fin 16
  line : Nat
  bytes : List Byte
  heldRef : Bool
  lineTime : Nat
deriving DecidableEq, Repr

/-- R74: the start limit timer; once it has run it does not start again for the same scan (log 27). -/
inductive StartLimit
  | notStarted
  | running (expiry : Nat)
  | done
deriving DecidableEq, Repr

/-- R70: the Scan Pipeline. -/
structure Pipeline where
  state : ScanState := .idle
  scanId : Option Nat := none
  pic : Fin 16 := 0
  rpm : Nat := 0
  lines : Nat := 0
  samples : Nat := 0
  picSamples : Nat := 0
  next : Nat := 0
  /-- per port: none for no candidate, else whether it is marked phased -/
  candidates : Vector (Option Bool) 4 := Vector.replicate 4 none
  bandLens : Vector (Option Nat) 4 := Vector.replicate 4 none
  lampReady : Bool := false
  homed : Bool := false
  held : Option (Nat × Nat) := none
  faultRun : Nat := 0
  rev : Option Revolution := none
  request : Option ConvRequest := none
  hold : Option (List Awaited) := none
  startLimit : StartLimit := .notStarted
  buffers : Vector (Option LineEntry) 2 := Vector.replicate 2 none
  /-- R15: the buffer that filled first, while both are FULL -/
  older : Fin 2 := 0
deriving DecidableEq, Repr

/-! ### Jobs and Port Scheduling (chapter 6) -/

/-- R98: a send job as a queue entry holds it. -/
structure Job where
  id : Nat
  pic : Fin 16
  dest : List Byte
  prio : Nat
  caption : List Byte
  liveOrigin : Bool := false
  bumped : Bool := false
deriving DecidableEq, Repr

/-- R99, R102, R162: the active job of a port, and whether its session has begun. A job bumped in or a live send waits while a blocking
slip of the port is pending. -/
structure ActiveJob where
  job : Job
  begun : Bool
deriving DecidableEq, Repr

/-- R152: the counters and flags of a session that its slip carries. -/
structure Counts where
  firstSent : Nat := 0
  repeated : Nat := 0
  standby : Nat := 0
  slack : Nat := 0
  captionBytes : Nat := 0
  preemptions : Nat := 0
  collisions : Nat := 0
  queries : Nat := 0
  noise : Nat := 0
  suspect : Nat := 0
  alterations : Nat := 0
  receipt : Nat := 0
  receiptPresent : Bool := false
  startedLive : Bool := false
  leftLive : Bool := false
  captionSent : Bool := false
  startTime : BitVec 32 := 0
  endTime : BitVec 32 := 0
deriving DecidableEq, Repr

/-- R104: a saved context. Its caption-sent and live-left flags stand among its counts. -/
structure Context where
  job : Job
  nextBand : Nat
  firstSent : Nat
  counts : Counts
  parity : Nat
  farRpm : Option Nat
  farIoc : Option Nat
deriving DecidableEq, Repr

/-- R91: where the slot in hand stands. -/
inductive ReaderPhase
  | reading
  | caption
  | answering
deriving DecidableEq, Repr

/-- R91: one caption read still to make: the caption's place among the job's captions, its first address and length, and the address
of the job slot to read. -/
structure CaptionRead where
  which : Nat
  first : Nat
  len : Nat
  slotAddr : Nat
deriving DecidableEq, Repr

/-- R91, R97: the slot in hand. -/
structure Hand where
  slot : Nat
  addr : Nat
  phase : ReaderPhase := .reading
  record : List Byte := []
  /-- caption bytes kept so far, one list for each of up to four captions -/
  captions : List (List Byte) := [[], [], [], []]
  todo : List CaptionRead := []
  /-- the four bytes of the result word, once judged -/
  result : List Byte := []
deriving DecidableEq, Repr

/-- R90, R91, R94: Job Intake. -/
structure Intake where
  queue : List Nat := []
  hand : Option Hand := none
  jobId : Nat := 0
deriving DecidableEq, Repr

/-! ### Coupler link (chapter 7) -/

/-- R112: link states. -/
inductive LinkState
  | onHook
  | dialling
  | connected
  | releasing
deriving DecidableEq, Repr

/-- R111, R113: an item handed to the coupler. `phasing` carries its place in its round; a TRAILER or QUERY carries whether its DONE
starts the verdict timer, which a verdict taken before it undoes (R138). -/
inductive Item
  | picture (line : Nat)
  | phasing (ordinal : Nat)
  | standby
  | call
  | trailer (startsTimer : Bool)
  | query (startsTimer : Bool)
  | close
  | closePart
  | text
deriving DecidableEq, Repr

/-- R119: the white and black codes that tone codes are formed with. -/
structure Tones where
  white : Nat
  black : Nat
deriving DecidableEq, Repr

/-- R111, R116: a frame of the port. LINE frames carry their line time; those with tone codes carry the white and black codes of the
session that hands them (R170) and P or their density bytes. A PICTURE frame names the picture whose way it is composed from, none
once that picture has been released (log 42), and holds its density bytes: those of the positions composed, as they went out, and
those of the others, as the way has them (R118). -/
inductive Frame
  | seize (dest : List Byte)
  | mode (am : Bool) (white black : Nat)
  | flush
  | release
  | text (sync : Nat) (caption : List Byte) (check : Nat) (pad : Nat)
  | picture (pic : Option (Fin 16)) (line : Nat) (tones : Tones) (time : Nat) (bytes : List Byte)
  | phasing (ordinal : Nat) (tones : Tones) (time : Nat) (picSamples : Nat)
  | standby (tones : Tones) (time : Nat) (picSamples : Nat)
  | call (continued : Bool) (band : Nat) (time : Nat)
  | trailer (band len check : Nat) (time : Nat)
  | query (startsTimer : Bool) (time : Nat)
  | close (time : Nat)
  | closePart (time : Nat)
deriving DecidableEq, Repr

/-- R111, R114: the frame in transfer; whether its item has been dropped (log 12); whether the session it belongs to is gone. -/
structure Transfer where
  frame : Frame
  dropped : Bool := false
  orphan : Bool := false
deriving DecidableEq, Repr

/-- R112: a port's link. -/
structure Link where
  state : LinkState := .onHook
  outstanding : List Item := []
  flushing : Bool := false
  releaseTimer : Option Nat := none
  transfer : Option Transfer := none
  /-- frames asked for and not yet in transfer, in the order asked for -/
  frames : List Frame := []
  /-- the bytes of the frame last carried to its end -/
  lastFrame : List Byte := []
deriving DecidableEq, Repr

/-! ### Sessions (chapter 8) -/

/-- R129: session states, in the order of the table of 8.2. -/
inductive SessionState
  | idle
  | seizing
  | calling
  | caption
  | phasing
  | awaitPhased
  | sending
  | awaitVerdict
  | waiting
  | quiet
  | standby
  | held
  | closing
  | parting
  | releasing
  | slipWait
deriving DecidableEq, Repr

/-- R127: live status. -/
inductive LiveStatus
  | none
  | candidate
  | member
deriving DecidableEq, Repr

/-- R158: slip outcomes. -/
inductive SlipOutcome
  | delivered
  | deliveredNoReceipt
  | short
  | aborted
  | abortedUnsent
  | lineFailed
  | noAnswer
  | mismatchIoc
  | notPhased
  | noVerdict
  | farStalled
  | bandRejected
  | lineNoise
  | farHung
  | carrierLost
deriving DecidableEq, Repr

/-- R127, R129: the session timers. -/
inductive TimerKind
  | seize
  | ready
  | phased
  | verdict
  | wait
  | quiet
  | receipt
deriving DecidableEq, Repr

/-- R127: a running session timer. -/
structure SessionTimer where
  kind : TimerKind
  expiry : Nat
deriving DecidableEq, Repr

/-- R113: a one-line item the session has asked to hand and that waits for room. -/
inductive Wish
  | call
  | query (startsTimer : Bool)
  | close
  | closePart
deriving DecidableEq, Repr

/-- R144, R145, R146: what a RELEASING session does when its release completes. -/
inductive Ending
  | ended
  | parted
  | bumped
deriving DecidableEq, Repr

/-- R127: the pending outcome with its cause detail (R158). -/
structure PendingOutcome where
  outcome : SlipOutcome
  detail : Nat := 0
deriving DecidableEq, Repr

/-- R127: a port's session record. Its default value is the empty record of an IDLE session. -/
structure Session where
  state : SessionState := .idle
  job : Option Job := none
  resumed : Bool := false
  live : LiveStatus := .none
  farRpm : Option Nat := none
  farIoc : Option Nat := none
  capable : Bool := false
  band : Nat := 0
  bandEnd : Nat := 0
  nextLine : Nat := 0
  /-- R137: the lines of the pass below this one have been asked for (log 38) -/
  asked : Nat := 0
  lastHanded : Option Nat := none
  stale : Bool := false
  agains : Nat := 0
  bandCollisions : Nat := 0
  staleResends : Nat := 0
  queries : Nat := 0
  waitRun : Nat := 0
  round : Nat := 0
  phasingHanded : Nat := 0
  firstSent : Nat := 0
  delivered : Nat := 0
  counts : Counts := {}
  outcome : Option PendingOutcome := none
  timer : Option SessionTimer := none
  wishes : List Wish := []
  ending : Ending := .ended
deriving DecidableEq, Repr

/-- One port: its scheduler (R98-R105), its session, its link, its line request, the scan line times it holds (R117) and its band
check accumulator (R118). -/
structure Port where
  queue : List Job := []
  active : Option ActiveJob := none
  contexts : List Context := []
  hold : Bool := false
  preempt : Bool := false
  session : Session := {}
  link : Link := {}
  wait : Option LineWait := none
  lineTimes : List (Nat × Nat) := []
  bandCheck : Nat := 0
deriving DecidableEq, Repr

/-! ### Receipt slips (chapter 9) -/

/-- R157: a slip as composed: every field but the serial and the mark. -/
structure Slip where
  jobId : Nat
  port : PortNo
  pic : Fin 16
  tag : BitVec 32
  dest : List Byte
  outcome : SlipOutcome
  detail : Nat
  prio : Nat
  bumped : Bool
  planned : Nat
  deliveredLines : Nat
  farRpm : Nat
  farIoc : Nat
  counts : Counts
deriving DecidableEq, Repr

/-- R159: slip writer states. -/
inductive WriterState
  | idle
  | writing
  | blocked
  | noRing
  | spent
deriving DecidableEq, Repr

/-- R154: the Slip Composer. `nextSerial` is none when SPENT; `filled` has one entry per ring slot. -/
structure Composer where
  pending : List Slip := []
  index : Nat := 0
  filled : List Bool := []
  nextSerial : Option Nat := some 0
  openJobs : Nat := 0
  writer : WriterState := .idle
deriving DecidableEq, Repr

/-! ### Setup, status, notices (chapter 10) -/

/-- R125, R128: the settings of one port. -/
structure PortSettings where
  enabled : Bool := false
  am : Bool := false
  white : Nat := 1500
  black : Nat := 2300
  bandLength : Nat := 32
  phasingLines : Nat := 20
  verdictTime : Nat := 3
  waitTime : Nat := 30
  minDuration : Nat := 40
  crc : Bool := false
  sync : Nat := 0
  pad : Nat := 0
  preempt : Bool := false
deriving DecidableEq, Repr

/-- R55, R87: the drum and scan settings. -/
structure DrumSettings where
  dBase60 : Nat := 0
  dBase90 : Nat := 0
  dBase120 : Nat := 0
  kp : Nat := 0
  ki : Nat := 0
  lockPpm : Nat := 100
  idleSpin : Nat := 60
  settleTenths : Nat := 20
  spanFloor : Nat := 256
  holdLimit : Nat := 2
  curve : List Nat := [255, 239, 223, 207, 191, 175, 159, 143, 127, 111, 95, 79, 63, 47, 31, 15, 0]
deriving DecidableEq, Repr

/-- The setup in force: its default value is that of every setting before the first load (R1, R19, R55, R87, R125, R128, R177). -/
structure Setup where
  windows : Vector WindowEntry 8 := Vector.replicate 8 {}
  slots : Vector SlotEntry 16 := Vector.replicate 16 {}
  jobSlots : Nat := 0
  ringCapacity : Nat := 0
  drum : DrumSettings := {}
  ports : Vector PortSettings 4 := Vector.replicate 4 {}
deriving DecidableEq, Repr

/-- R167: what the Setup Loader is doing. -/
inductive LoaderPhase
  | idle
  /-- the setup part read of part 1 to 8 is requested or running -/
  | reading (part : Nat)
  /-- the load result write of these four bytes is requested or running -/
  | answering (result : List Byte)
deriving DecidableEq, Repr

/-- R167, R168: the Setup Loader, with the clamped values read so far and the ADJUSTED mark of the load. -/
structure Loader where
  phase : LoaderPhase := .idle
  block : Setup := {}
  enables : BitVec 9 := 0
  serial : Nat := 0
  clock : BitVec 32 := 0
  adjusted : Bool := false
deriving DecidableEq, Repr

/-- R173: the Status Writer: one changed flag and one rewrite count per record. -/
structure StatusWriter where
  changed : Vector Bool 27 := Vector.replicate 27 false
  rewrites : Vector Nat 27 := Vector.replicate 27 0
deriving DecidableEq, Repr

/-- R175: the Notice Unit: bit c of each belongs to class c. -/
structure Notices where
  flags : BitVec 9 := 0
  enables : BitVec 9 := 0
deriving DecidableEq, Repr

/-- R171: the desk clock. -/
structure DeskClock where
  seconds : BitVec 32 := 0
  micros : Nat := 0
deriving DecidableEq, Repr

/-- R177: reset causes. -/
inductive ResetCause
  | power
  | pin
deriving DecidableEq, Repr

/-! ### The unit in progress (R13) -/

/-- R3: the two forms of a desk unit that make memory accesses (a dropped write ends at its grant). -/
inductive DeskForm
  | forward (event : WatchEvent)
  /-- R6: line `line` of picture `pic`, whose stride is `stride` and density bytes `picSamples`, at line address `lineAddr` -/
  | upkeep (pic : Fin 16) (line : Nat) (lineAddr : Nat) (stride : Nat) (picSamples : Nat)
deriving DecidableEq, Repr

/-- R13: the unit in progress on the memory bus, with what its requester prepared. -/
inductive BusUnit
  | desk (access : DeskAccess) (form : DeskForm)
  | scanLine (buffer : Fin 2) (lineAddr : Nat)
  /-- `dropped`: picture released while the unit runs (R41, R42) -/
  | lineFetch (port : PortNo) (pic : Fin 16) (line : Nat) (way : Bool) (lineAddr : Nat) (stride : Nat) (picSamples : Nat) (dropped : Bool)
  | trailerFlag (failure : LineFailure)
  | jobRead (addr : Nat)
  | resultWrite (addr : Nat) (bytes : List Byte)
  | setupPart (part : Nat)
  | loadResult (bytes : List Byte)
  | slipWrite (slot : Nat) (addr : Nat) (bytes : List Byte)
  | statusWrite (record : Fin 27) (addr : Nat) (bytes : List Byte) (count : Byte)
deriving DecidableEq, Repr

/-! ### The whole part -/

/-- The state of the part and the queue of the commands that wait for it. -/
structure State where
  /-- the commands waiting, first in, first out (log 3) -/
  pending : List Instr := []
  /-- the 1 µs timebase (log 1) -/
  now : Nat := 0
  /-- RESET is low, or power-on has not ended -/
  inReset : Bool := false
  resetCause : ResetCause := .power
  strap : BitVec 3 := 0
  mem : Memory := []
  desk : Desk := {}
  drops : DropCounters := {}
  /-- the Memory Arbiter: none is IDLE -/
  unit : Option BusUnit := none
  cfg : Setup := {}
  adopted : Bool := false
  pics : Vector PictureRecord 16 := Vector.replicate 16 {}
  store : LineStore := {}
  /-- the trailer writer's list, oldest first -/
  trailers : List LineFailure := []
  drum : Drum := {}
  pipe : Pipeline := {}
  intake : Intake := {}
  ports : Vector Port 4 := Vector.replicate 4 {}
  composer : Composer := {}
  loader : Loader := {}
  /-- the four bytes of the last load result word -/
  loadResult : List Byte := [0, 0, 0, 0]
  status : StatusWriter := {}
  notice : Notices := {}
  clock : DeskClock := {}
deriving DecidableEq, Repr

/-- The part after a power-on reset has ended (R18, R35, R49, R69, R88, R110, R126, R153, R166, R177; log 21 for what they leave
open): every field at its default value. -/
def State.reset : State := {}

/-- Why a step stops the part. No rule of the spec stops it, so no step answers a fault. -/
inductive Fault
deriving DecidableEq, Repr

/-- Why a command is refused. -/
inductive Refusal
  /-- raised by exec's arm of a command that has no meaning yet; safe: the model stops where the part goes on -/
  | notModelled (mnemonic : String)
deriving DecidableEq, Repr

end Sys2Proof.Machine
end

