-- ==== Sys2Proof/Machine/Bytes.lean ====
section
/-! DEFINITION. Byte order (00_scope.md section 5, R178), fields of records, bounded arithmetic, and the memory operations. -/

namespace Sys2Proof.Machine

/-! ### Numbers -/

/-- A counter stops at its greatest value (00_scope.md section 5). -/
def bump (greatest x : Nat) : Nat := min greatest (x + 1)

/-- clamp(x, lo, hi) of 00_scope.md section 5. -/
def clamp (x lo hi : Nat) : Nat := max lo (min x hi)

/-- clamp for a quantity that may be negative. -/
def clampInt (x lo hi : Int) : Int := max lo (min x hi)

/-- round(a / b), halves rounded up (00_scope.md section 5). -/
def roundDiv (a b : Nat) : Nat := (2 * a + b) / (2 * b)

/-- ceil(a / b). -/
def ceilDiv (a b : Nat) : Nat := (a + b - 1) / b

/-! ### Byte order -/

/-- `v` in `n` bytes, least significant byte first; a value too great for the field keeps its low bytes. -/
def leBytes : Nat → Nat → List Byte
  | 0, _ => []
  | n + 1, v => BitVec.ofNat 8 v :: leBytes n (v / 256)

/-- `v` in `n` bytes, saturated at the field's greatest value (R157). -/
def leSat (n v : Nat) : List Byte := leBytes n (min v (256 ^ n - 1))

/-- A flag as a byte: 0 clear, 1 set. Where R183 or R184 gives a one-byte flag field no codes, these are the model's choice (log 45). -/
def flagByte (b : Bool) : Byte := if b then 1 else 0

/-- One byte of a record. -/
def byteAt (r : List Byte) (i : Nat) : Nat := (r.getD i 0).toNat

/-- A field of `n` bytes of a record at offset `i`, as written. -/
def bytesAt (r : List Byte) (i n : Nat) : List Byte := (r.drop i).take n

/-- A numeric field of `n` bytes of a record at offset `i` (R178). -/
def fieldAt (r : List Byte) (i n : Nat) : Nat := leNat (bytesAt r i n)

/-- `r` filled up with zero bytes to length `n` (R178: unassigned bytes are written as 0). -/
def padTo (n : Nat) (r : List Byte) : List Byte := r ++ List.replicate (n - r.length) 0

/-- Desk address fields are taken as their low 26 bits (R178). -/
def addr26 (a : Nat) : Nat := a % 2 ^ 26

/-! ### Memory -/

/-- What a byte that nothing has written reads as (log 4). -/
def unwrittenByte : Byte := 0

/-- One byte of memory. -/
def readByte : Memory → Nat → Byte
  | [], _ => unwrittenByte
  | (b, v) :: rest, a => if a = b then v else readByte rest a

/-- The memory with one byte written, in canonical form. -/
def writeByte : Memory → Nat → Byte → Memory
  | [], a, v => if v = unwrittenByte then [] else [(a, v)]
  | (b, w) :: rest, a, v =>
    if a < b then (if v = unwrittenByte then (b, w) :: rest else (a, v) :: (b, w) :: rest)
    else if a = b then (if v = unwrittenByte then rest else (a, v) :: rest)
    else (b, w) :: writeByte rest a v

/-- The canonical form: addresses strictly rising, none equal to what an unlisted address reads as. -/
def Memory.wf : Memory → Bool
  | [] => true
  | [(_, v)] => v != unwrittenByte
  | (a, v) :: (b, w) :: rest => v != unwrittenByte && decide (a < b) && Memory.wf ((b, w) :: rest)

/-- The bytes at `n` successive addresses of the 26-bit bus. -/
def readBytes (m : Memory) (a : Nat) : Nat → List Byte
  | 0 => []
  | n + 1 => readByte m (addr26 a) :: readBytes m (a + 1) n

/-- The access that writes these bytes at successive addresses. -/
def accessOf (a : Nat) : List Byte → Access
  | [] => []
  | b :: bs => (addr26 a, b) :: accessOf (a + 1) bs

/-- Memory after one access. -/
def applyAccess (m : Memory) : Access → Memory
  | [] => m
  | (a, v) :: rest => applyAccess (writeByte m a v) rest

/-- Memory after a run of accesses. -/
def applyAccesses (m : Memory) : List Access → Memory
  | [] => m
  | x :: xs => applyAccesses (applyAccess m x) xs

/-- A run of bytes cut into the accesses that write it word by word, from address `a`; `n` bounds the number of words. -/
def wordAccesses (a : Nat) (bs : List Byte) : Nat → List Access
  | 0 => []
  | n + 1 => accessOf a (bs.take 4) :: wordAccesses (a + 4) (bs.drop 4) n

end Sys2Proof.Machine
end

