-- ==== Sys2Proof/Machine/Operands.lean ====
section
/-! DEFINITION. Operand forms: picture geometry, desk accesses, windows and slots, trailers, and the fields of job records and of
the setup block (R20, R33, R168, R178-R182). -/

namespace Sys2Proof.Machine

/-! ### Geometry (R20) -/

/-- S, the samples per revolution (R20). -/
def samplesOf (ioc : Nat) : Nat := (ioc * 355 + 56) / 113

/-- P, the picture samples per line (R20). -/
def picSamplesOf (ioc : Nat) : Nat := samplesOf ioc - 32

/-- Stride, the bytes one line occupies (R20). -/
def strideOf (ioc : Nat) : Nat := 4 * ceilDiv (picSamplesOf ioc) 4 + 4

/-- Address of line `n` of a slot (R20). -/
def lineAddrOf (base stride n : Nat) : Nat := base + n * stride

/-- T, the trailer address of line `n` of a slot (R6). -/
def trailerAddrOf (base stride n : Nat) : Nat := base + (n + 1) * stride - 4

/-- The line check of a run of density bytes (R21). -/
def lineCheck (density : List Byte) : Nat := (density.foldl (fun a b => a + b.toNat) 0) % 65536

/-- The pad bytes of one line (R21). -/
def padCount (stride picSamples : Nat) : Nat := stride - 4 - picSamples

/-- The SCANNED flag of a trailer (R180). -/
def flagScanned : Byte := 1

/-- The HELD-REF flag of a trailer (R180). -/
def flagHeldRef : Byte := 2

/-- The ALTERED flag of a trailer (R180). -/
def flagAltered : Byte := 4

/-- The SUSPECT flag of a trailer (R180). -/
def flagSuspect : Byte := 8

/-- A trailer word: line check, line number byte, flags (R180). -/
def trailerBytes (check : Nat) (line flags : Byte) : List Byte := leBytes 2 check ++ [line, flags]

/-! ### Desk accesses (R3) -/

/-- The four byte lanes. -/
def lanes : List Nat := [0, 1, 2, 3]

/-- Lane `i` of an access is enabled. -/
def laneOn (a : DeskAccess) (i : Nat) : Bool := a.enables.getLsbD i

/-- The byte of lane `i` of a word. -/
def laneByte (w : Word) (i : Nat) : Byte := w.extractLsb' (8 * i) 8

/-- The aligned word address of an access (log 5). -/
def wordAddr (a : DeskAccess) : Nat := a.addr.toNat / 4 * 4

/-- The bytes a desk write puts in memory. -/
def deskBytes (a : DeskAccess) : Access :=
  lanes.filterMap fun i => if laneOn a i then some (wordAddr a + i, laneByte a.data i) else none

/-- The word four bytes spell. -/
def wordOf (bs : List Byte) : Word := BitVec.ofNat 32 (leNat bs)

/-- The write enables all four bytes of its word. -/
def fullWord (a : DeskAccess) : Bool := a.enables == 15

/-- The notice classes a write of the clear word names: bits written as 1 among the enabled bytes (R11). -/
def clearClasses (a : DeskAccess) : BitVec 9 :=
  BitVec.ofNat 9 (leNat (lanes.map fun i => if laneOn a i then laneByte a.data i else 0))

/-! ### Windows and slots (R1, R2, R19) -/

/-- The entry covers the address (R1). -/
def covers (w : WindowEntry) (a : Nat) : Bool := w.kind != .off && decide (w.base ≤ a) && decide (a < w.base + w.size)

/-- The window an address lies in. -/
def windowAt (ws : Vector WindowEntry 8) (a : Nat) : Option WindowEntry := ws.toList.find? fun w => covers w a

/-- The window of a kind of which there is at most one. -/
def windowOf (ws : Vector WindowEntry 8) (kind : WindowKind) : Option WindowEntry := ws.toList.find? fun w => w.kind = kind

/-- Base of the setup window (R2). -/
def setupBase (strap : BitVec 3) : Nat := 0x3F80000 + strap.toNat * 0x10000

/-- Length of the setup window (R2). -/
def setupSize : Nat := 0x10000

/-- The address lies in the setup window (R2). -/
def inSetupWindow (strap : BitVec 3) (a : Nat) : Bool := decide (setupBase strap ≤ a) && decide (a < setupBase strap + setupSize)

/-- The slot an address lies in, with the offset from its base (R5). An unused slot holds no address (R19). -/
def slotAt (slots : Vector SlotEntry 16) (a : Nat) : Option (Fin 16 × Nat) :=
  (List.finRange 16).findSome? fun k =>
    if slots[k].base ≤ a ∧ a < slots[k].base + slots[k].size then some (k, a - slots[k].base) else none

/-- The four dispositions of a picture-line write (R5); UPKEEP carries the line. -/
inductive Disposition
  | plain
  | trailerDrop
  | collisionDrop
  | upkeep (line : Nat)
deriving DecidableEq, Repr

/-- R33: the judgement of a desk write at offset `q` of a slot of `size` bytes whose picture `r` is not EMPTY. -/
def dispose (r : PictureRecord) (size q : Nat) : Disposition :=
  let n := q / r.stride
  if size / r.stride ≤ n then .plain
  else if r.stride - 4 ≤ q % r.stride then .trailerDrop
  else if r.state = .scanning ∧ r.mark ≤ n then .collisionDrop
  else if n < r.mark then .upkeep n
  else .plain

/-- What the decoder makes of a desk access (R3). -/
inductive Classified
  | unit (form : DeskForm)
  | trailerDrop
  | collisionDrop (pic : Fin 16)
  | statusDrop
deriving DecidableEq, Repr

/-- A write to the setup window (R11): `off` is its word's offset. -/
def watchSetup (a : DeskAccess) (off : Nat) : WatchEvent :=
  if off = 0 then (if fullWord a && a.data == 1 then .load else .plain)
  else if off = 8 then .clear (clearClasses a)
  else .plain

/-- A write to the JOBS window (R8). -/
def watchJobs (jobSlots : Nat) (a : DeskAccess) (off : Nat) : WatchEvent :=
  if off % 128 = 0 && decide (off / 128 < jobSlots) && fullWord a && a.data == 1 then .post (off / 128) else .plain

/-- A write to the SLIPS window (R9). -/
def watchSlips (filled : List Bool) (capacity : Nat) (a : DeskAccess) (off : Nat) : WatchEvent :=
  if off % 64 = 0 && decide (off / 64 < capacity) && fullWord a && a.data == 0 && filled.getD (off / 64) false
  then .mark (off / 64) else .plain

/-- A write to a PICTURE window (R4, R5, R33). -/
def classifyPicture (s : State) (addr : Nat) : Classified :=
  match slotAt s.cfg.slots addr with
  | none => .unit (.forward .plain)
  | some (k, q) =>
    if s.pics[k].state = .empty then .unit (.forward .plain)
    else
      match dispose s.pics[k] s.cfg.slots[k].size q with
      | .plain => .unit (.forward .plain)
      | .trailerDrop => .trailerDrop
      | .collisionDrop => .collisionDrop k
      | .upkeep n =>
        .unit (.upkeep k n (lineAddrOf s.cfg.slots[k].base s.pics[k].stride n) s.pics[k].stride s.pics[k].picSamples)

/-- R3: the classification of a desk access against the tables, records and ring state of `s`. An access that enables no byte is
forwarded. -/
def classify (s : State) (a : DeskAccess) : Classified :=
  let addr := wordAddr a
  if !a.write || a.enables == 0 then .unit (.forward .plain)
  else if inSetupWindow s.strap addr then .unit (.forward (watchSetup a (addr - setupBase s.strap)))
  else
    match windowAt s.cfg.windows addr with
    | none => .unit (.forward .plain)
    | some w =>
      match w.kind with
      | .off => .unit (.forward .plain)
      | .picture => classifyPicture s addr
      | .jobs => .unit (.forward (watchJobs s.cfg.jobSlots a (addr - w.base)))
      | .slips => .unit (.forward (watchSlips s.composer.filled s.cfg.ringCapacity a (addr - w.base)))
      | .status => .statusDrop

/-! ### Job records (R179) -/

/-- The seven job kinds (R89). -/
inductive JobKind
  | scan
  | send
  | abortJob
  | abortPicture
  | releasePicture
  | holdPort
  | resumePort
deriving DecidableEq, Repr

/-- The kind byte of a record, none for the values that give BAD-KIND. -/
def kindOf (r : List Byte) : Option JobKind :=
  match byteAt r 8 with
  | 1 => some .scan
  | 2 => some .send
  | 3 => some .abortJob
  | 4 => some .abortPicture
  | 5 => some .releasePicture
  | 6 => some .holdPort
  | 7 => some .resumePort
  | _ => none

/-- Picture of a SCAN, SEND, ABORT-PICTURE or RELEASE-PICTURE. -/
def recPicture (r : List Byte) : Nat := byteAt r 12

/-- Port of a SEND. -/
def recSendPort (r : List Byte) : Nat := byteAt r 13

/-- Port of a HOLD-PORT or RESUME-PORT. -/
def recPort (r : List Byte) : Nat := byteAt r 12

/-- Target of an ABORT-JOB. -/
def recTarget (r : List Byte) : Nat := fieldAt r 12 2

/-- Rpm of a SCAN. -/
def recRpm (r : List Byte) : Nat := byteAt r 13

/-- Live port mask of a SCAN. -/
def recMask (r : List Byte) : Nat := byteAt r 14

/-- Tag of a SCAN. -/
def recTag (r : List Byte) : BitVec 32 := BitVec.ofNat 32 (fieldAt r 16 4)

/-- IOC of a SCAN. -/
def recIoc (r : List Byte) : Nat := fieldAt r 20 2

/-- Lines planned of a SCAN. -/
def recLines (r : List Byte) : Nat := fieldAt r 22 2

/-- Carriage advance of a SCAN. -/
def recAdvance (r : List Byte) : Nat := fieldAt r 24 2

/-- The ports of a live port mask, in port order. -/
def livePorts (mask : Nat) : List PortNo := (List.finRange 4).filter fun p => mask.testBit p.val

/-- What a record says of one send job: destination, caption address and length, priority. -/
structure SendFields where
  dest : List Byte
  captionAddr : Nat
  captionLen : Nat
  prio : Nat
deriving DecidableEq, Repr

/-- The send job of a SEND record. -/
def sendFields (r : List Byte) : SendFields :=
  { dest := bytesAt r 16 8, captionAddr := addr26 (fieldAt r 24 4), captionLen := byteAt r 15, prio := byteAt r 14 }

/-- The live send of port `p` of a SCAN record. -/
def liveFields (r : List Byte) (p : PortNo) : SendFields :=
  { dest := bytesAt r (28 + 16 * p.val) 8, captionAddr := addr26 (fieldAt r (36 + 16 * p.val) 4),
    captionLen := byteAt r (40 + 16 * p.val), prio := byteAt r (41 + 16 * p.val) }

/-- The send jobs of a record, each with the place of its caption: 0 for a SEND, the port for a live send. -/
def recSends (r : List Byte) : List (Nat × SendFields) :=
  match kindOf r with
  | some .scan => (livePorts (recMask r)).map fun p => (p.val, liveFields r p)
  | some .send => [(0, sendFields r)]
  | _ => []

/-- A caption of length 0, or one of at most 240 bytes wholly within job slots 0 to J - 1 (R93, check 7). -/
def captionOk (jobsBase : Option Nat) (jobSlots : Nat) (f : SendFields) : Bool :=
  f.captionLen = 0 ||
  (decide (f.captionLen ≤ 240) &&
    match jobsBase with
    | none => false
    | some b => decide (b ≤ f.captionAddr) && decide (f.captionAddr + f.captionLen ≤ b + 128 * jobSlots))

/-- R91: the caption reads of one caption, lowest slot first, for a JOBS window at `b`. A caption touches at most three slots. -/
def captionReadsOf (b : Nat) (c : Nat × SendFields) : List CaptionRead :=
  let f := c.2
  if f.captionLen = 0 then []
  else
    let firstSlot := (f.captionAddr - b) / 128
    let lastSlot := (f.captionAddr + f.captionLen - 1 - b) / 128
    [0, 1, 2].filterMap fun i =>
      if firstSlot + i ≤ lastSlot
      then some { which := c.1, first := f.captionAddr, len := f.captionLen, slotAddr := b + 128 * (firstSlot + i) }
      else none

/-- The bytes of a slot read that belong to a caption. -/
def captionPart (c : CaptionRead) (slot : List Byte) : List Byte :=
  let lo := max c.slotAddr c.first
  let hi := min (c.slotAddr + 128) (c.first + c.len)
  bytesAt slot (lo - c.slotAddr) (hi - lo)

/-! ### The setup block (R168, R182) -/

/-- A value and whether it was clamped. -/
abbrev Clamped (α : Type) := α × Bool

/-- R168: limited to a range. -/
def limit (lo hi x : Nat) : Clamped Nat := (clamp x lo hi, clamp x lo hi != x)

/-- R168: a 0 or 1 byte; a value above 1 is taken as 1. -/
def limitBit (x : Nat) : Clamped Bool := (decide (1 ≤ x), decide (1 < x))

/-- R168: band length to the nearest of 16, 32, 64, the smaller on a tie. -/
def limitBand (x : Nat) : Clamped Nat :=
  let v := if x ≤ 24 then 16 else if x ≤ 48 then 32 else 64
  (v, v != x)

/-- R168, R182: a window kind byte; any other value is taken as OFF. -/
def limitKind (x : Nat) : Clamped WindowKind :=
  match x with
  | 0 => (.off, false)
  | 1 => (.picture, false)
  | 2 => (.jobs, false)
  | 3 => (.slips, false)
  | 4 => (.status, false)
  | _ => (.off, true)

/-- Offset and length of the bytes of part 1 to 8 in the setup block (R182). -/
def partSpan (part : Nat) : Nat × Nat :=
  match part with
  | 1 => (0x10, 16)
  | 2 => (0x20, 96)
  | 3 => (0x80, 128)
  | 4 => (0x100, 64)
  | p => (0x140 + 32 * (p - 5), 32)

/-- Window entry `e` of part 2. -/
def readWindow (r : List Byte) (e : Nat) : Clamped WindowEntry :=
  let k := limitKind (byteAt r (12 * e))
  ({ kind := k.1, base := addr26 (fieldAt r (12 * e + 4) 4), size := fieldAt r (12 * e + 8) 4 }, k.2)

/-- Slot entry `i` of part 3. -/
def readSlot (r : List Byte) (i : Nat) : SlotEntry := { base := addr26 (fieldAt r (8 * i) 4), size := fieldAt r (8 * i + 4) 4 }

/-- Part 4: the drum and scan settings. -/
def readDrum (r : List Byte) : Clamped DrumSettings :=
  let d60 := limit 0 1023 (fieldAt r 0 2)
  let d90 := limit 0 1023 (fieldAt r 2 2)
  let d120 := limit 0 1023 (fieldAt r 4 2)
  let ppm := limit 20 500 (fieldAt r 8 2)
  let idle := limit 0 600 (fieldAt r 10 2)
  let floor := limit 64 2048 (fieldAt r 12 2)
  let settle := limit 5 80 (byteAt r 14)
  let hold := limit 1 8 (byteAt r 15)
  ({ dBase60 := d60.1, dBase90 := d90.1, dBase120 := d120.1, kp := byteAt r 6, ki := byteAt r 7, lockPpm := ppm.1,
     idleSpin := idle.1, settleTenths := settle.1, spanFloor := floor.1, holdLimit := hold.1,
     curve := (List.range 17).map fun i => byteAt r (16 + i) },
   d60.2 || d90.2 || d120.2 || ppm.2 || idle.2 || floor.2 || settle.2 || hold.2)

/-- Parts 5 to 8: the settings of one port. -/
def readPort (r : List Byte) : Clamped PortSettings :=
  let en := limitBit (byteAt r 0)
  let am := limitBit (byteAt r 1)
  let tone := if am.1 then limit 0 1023 else limit 1000 3000
  let white := tone (fieldAt r 2 2)
  let black := tone (fieldAt r 4 2)
  let band := limitBand (byteAt r 6)
  let phasing := limit 10 60 (byteAt r 7)
  let verdict := limit 1 10 (byteAt r 8)
  let wait := limit 5 120 (byteAt r 9)
  let dur := limit 10 200 (byteAt r 10)
  let crc := limitBit (byteAt r 11)
  let sync := limit 0 15 (byteAt r 12)
  let pad := limit 0 15 (byteAt r 13)
  let pre := limitBit (byteAt r 14)
  ({ enabled := en.1, am := am.1, white := white.1, black := black.1, bandLength := band.1, phasingLines := phasing.1,
     verdictTime := verdict.1, waitTime := wait.1, minDuration := dur.1, crc := crc.1, sync := sync.1, pad := pad.1,
     preempt := pre.1 },
   en.2 || am.2 || white.2 || black.2 || band.2 || phasing.2 || verdict.2 || wait.2 || dur.2 || crc.2 || sync.2 || pad.2 || pre.2)

/-- R168: the loader with the bytes of a part taken in, clamped as they are read. -/
def takePart (l : Loader) (part : Nat) (r : List Byte) : Loader :=
  match part with
  | 1 =>
    let j := limit 8 128 (fieldAt r 2 2)
    let c := limit 8 256 (fieldAt r 4 2)
    { l with
      block := { l.block with jobSlots := j.1, ringCapacity := c.1 }
      enables := BitVec.ofNat 9 (fieldAt r 0 2)
      serial := fieldAt r 8 4
      clock := BitVec.ofNat 32 (fieldAt r 12 4)
      adjusted := l.adjusted || j.2 || c.2 }
  | 2 =>
    { l with
      block := { l.block with windows := Vector.ofFn fun e => (readWindow r e.val).1 }
      adjusted := l.adjusted || (List.range 8).any fun e => (readWindow r e).2 }
  | 3 => { l with block := { l.block with slots := Vector.ofFn fun i => readSlot r i.val } }
  | 4 => { l with block := { l.block with drum := (readDrum r).1 }, adjusted := l.adjusted || (readDrum r).2 }
  | n =>
    if h : n - 5 < 4 then
      { l with
        block := { l.block with ports := l.block.ports.set (n - 5) (readPort r).1 }
        adjusted := l.adjusted || (readPort r).2 }
    else l

end Sys2Proof.Machine
end

