-- ==== Sys2Proof/Machine/Flags.lean ====
section
/-! DEFINITION. Notice flags and attention (R175), the LAMP output (R62), the contents of the status records (R109, R173, R183), and which records an event
has changed (R17, R173). -/

namespace Sys2Proof.Machine

/-! ### Notices (R175) -/

/-- The JOB class. -/
def classJob : Nat := 0
/-- The SLIP class. -/
def classSlip : Nat := 1
/-- The RING class. -/
def classRing : Nat := 2
/-- The SCAN class. -/
def classScan : Nat := 3
/-- The DRUM class. -/
def classDrum : Nat := 4
/-- The LINE class. -/
def classLine : Nat := 5
/-- The CHECK class. -/
def classCheck : Nat := 6
/-- The DROP class. -/
def classDrop : Nat := 7
/-- The SETUP class. -/
def classSetup : Nat := 8

/-- A notice is set (R175). -/
def raise (c : Nat) (s : State) : State :=
  { s with notice := { s.notice with flags := s.notice.flags ||| BitVec.twoPow 9 c } }

/-- R176: a clear event. -/
def clearNotices (classes : BitVec 9) (s : State) : State :=
  { s with
    notice := { s.notice with flags := s.notice.flags &&& ~~~classes }
    store := if classes.getLsbD classCheck then { s.store with latch := none } else s.store }

/-- The classes that have both flag and enable set. -/
def pendingClasses (n : Notices) : BitVec 9 := n.flags &&& n.enables

/-- The attention level (R175). -/
def attention (n : Notices) : Bool := pendingClasses n != 0

/-- The lowest pending enabled notice (R175). -/
def lowestPending (n : Notices) : Option Nat := (List.range 9).find? fun c => (pendingClasses n).getLsbD c

/-! ### The LAMP output (R62) -/

/-- The LAMP output is on in WARMING and READY. -/
def lampOn (d : Drum) : Bool := d.lamp = .warming || d.lamp = .ready

/-! ### Codes of R183 -/

/-- Picture state code. -/
def picStateCode : PicState → Nat
  | .empty => 0
  | .scanning => 1
  | .complete => 2
  | .cut => 3

/-- Cut cause code. -/
def cutCode : CutCause → Nat
  | .noCause => 0
  | .drumFault => 1
  | .referenceLost => 2
  | .aborted => 3

/-- Drum state code. -/
def drumCode : DrumState → Nat
  | .stopped => 0
  | .spinUp => 1
  | .locked => 2
  | .slipped => 3
  | .stopping => 4
  | .fault => 5

/-- Fault cause code. -/
def faultCode : FaultCause → Nat
  | .noFault => 0
  | .stall => 1
  | .spinUp => 2
  | .slip => 3
  | .cover => 4
  | .carriage => 5

/-- Lamp state code. -/
def lampCode : Lamp → Nat
  | .off => 0
  | .warming => 1
  | .ready => 2

/-- Carriage state code. -/
def carriageCode : Carriage → Nat
  | .unknown => 0
  | .homing _ _ => 1
  | .known _ => 2

/-- Session state code (R129's table order). -/
def sessionCode : SessionState → Nat
  | .idle => 0
  | .seizing => 1
  | .calling => 2
  | .caption => 3
  | .phasing => 4
  | .awaitPhased => 5
  | .sending => 6
  | .awaitVerdict => 7
  | .waiting => 8
  | .quiet => 9
  | .standby => 10
  | .held => 11
  | .closing => 12
  | .parting => 13
  | .releasing => 14
  | .slipWait => 15

/-! ### Status records -/

/-- Length of a record's area, its change count byte included (R183). -/
def areaLen (i : Nat) : Nat := if i < 3 then 16 else if i < 20 then 32 else if i < 24 then 16 else if i = 24 then 32 else 16

/-- Offset of a record's area in the page (R183). -/
def areaOffset (i : Nat) : Nat :=
  if i < 3 then 16 * i
  else if i = 3 then 0x30
  else if i < 20 then 0x50 + 32 * (i - 4)
  else if i < 24 then 0x250 + 16 * (i - 20)
  else if i = 24 then 0x290
  else if i = 25 then 0x2B0
  else 0x2C0

/-- Record 0. -/
def idRecord (s : State) : List Byte := [0x48, 0x58, 0x32, 0x30, 1, BitVec.setWidth 8 s.strap]

/-- Record 1. -/
def generalRecord (s : State) : List Byte :=
  [match s.resetCause with | .power => 1 | .pin => 2, flagByte s.adopted, 0, 0] ++ s.loadResult ++ leBytes 4 s.clock.seconds.toNat

/-- Record 2. -/
def noticeRecord (s : State) : List Byte :=
  leBytes 2 s.notice.flags.toNat ++ leBytes 2 s.notice.enables.toNat ++
  [match lowestPending s.notice with | some c => BitVec.ofNat 8 c | none => 0xFF, flagByte (attention s.notice)]

/-- The carriage position, FFFFFFFFh while not KNOWN. -/
def positionField : Carriage → Nat
  | .known p => p
  | _ => 0xFFFFFFFF

/-- Record 3 (R68). -/
def drumRecord (d : Drum) : List Byte :=
  [BitVec.ofNat 8 (drumCode d.state), BitVec.ofNat 8 (faultCode d.cause), BitVec.ofNat 8 (d.target.getD 0), flagByte d.coverOpen,
   BitVec.ofNat 8 (lampCode d.lamp), BitVec.ofNat 8 (carriageCode d.carriage), flagByte d.homeClosed, 0] ++
  leBytes 2 d.duty ++ [0, 0] ++ leBytes 4 d.tMeas ++ leBytes 4 (positionField d.carriage)

/-- Records 4 to 19 (R23). -/
def pictureRecordBytes (r : PictureRecord) : List Byte :=
  [BitVec.ofNat 8 (picStateCode r.state), BitVec.ofNat 8 r.rpm, BitVec.ofNat 8 (cutCode r.cause), BitVec.ofNat 8 r.refs] ++
  leBytes 4 r.tag.toNat ++ leBytes 2 r.ioc ++ leBytes 2 r.samples ++ leBytes 2 r.picSamples ++ leBytes 2 r.stride ++
  leBytes 2 r.lines ++ leBytes 2 r.mark ++ leBytes 2 r.collisionDrops ++ leBytes 2 r.alteredWrites ++ leBytes 2 r.heldLines ++
  leBytes 2 r.checkErrors

/-- The session has no band (R127, R151; log 18). -/
def noBand (st : SessionState) : Bool := st = .idle || st = .slipWait

/-- Records 20 to 23 (R109). -/
def portRecord (p : Port) (free : Nat → Byte) : List Byte :=
  [BitVec.ofNat 8 (sessionCode p.session.state), if noBand p.session.state then free 1 else BitVec.ofNat 8 p.session.band] ++
  leBytes 2 (match p.active with | some a => a.job.id | none => 0) ++
  [BitVec.ofNat 8 p.queue.length, BitVec.ofNat 8 p.contexts.length, flagByte p.hold, flagByte p.preempt]

/-- Record 24. -/
def countersRecord (s : State) : List Byte :=
  leBytes 4 s.drops.trailer ++ leBytes 4 s.drops.collision ++ leBytes 4 s.drops.status ++ leBytes 4 s.store.checkErrors

/-- Record 25. -/
def latchRecord (l : Option LineFailure) (free : Nat → Byte) : List Byte :=
  match l with
  | some f => [1, BitVec.ofNat 8 f.pic.val] ++ leBytes 2 f.line ++ leBytes 4 f.trailer
  | none => [0, free 1, free 2, free 3, free 4, free 5, free 6, free 7]

/-- The untaken count (R154). -/
def untaken (c : Composer) : Nat := c.filled.countP id

/-- Record 26. -/
def ringRecord (c : Composer) : List Byte := leBytes 2 c.index ++ leBytes 2 (untaken c) ++ [BitVec.ofNat 8 c.pending.length]

/-- The contents of record `i` without its change count byte; `free` gives the bytes no rule states (log 18). -/
def recordBytes (s : State) (free : Nat → Byte) (i : Nat) : List Byte :=
  padTo (areaLen i - 1) <|
    match i with
    | 0 => idRecord s
    | 1 => generalRecord s
    | 2 => noticeRecord s
    | 3 => drumRecord s.drum
    | 24 => countersRecord s
    | 25 => latchRecord s.store.latch free
    | 26 => ringRecord s.composer
    | n =>
      if n < 20 then pictureRecordBytes s.pics[(Fin.ofNat 16 (n - 4))]
      else portRecord s.ports[(Fin.ofNat 4 (n - 20))] free

/-- The contents compared to find a change: the free bytes play no part. -/
def comparedBytes (s : State) (i : Nat) : List Byte := recordBytes s (fun _ => 0) i

/-- R173: the changed flags after an event that took `a` to `b`: those set before or by the event itself, and those of the
records whose contents differ (log 16). -/
def changedAfter (a b : State) : Vector Bool 27 :=
  Vector.ofFn fun i => b.status.changed[i] || comparedBytes a i.val != comparedBytes b i.val

/-- R173: the Status Writer learns of an event that took `a` to `b`. -/
def noteChanges (a b : State) : State := { b with status := { b.status with changed := changedAfter a b } }

end Sys2Proof.Machine
end

