-- ==== Sys2Proof/Machine/Ops.lean ====
section
/-! DEFINITION. The named operations over the state: time, the frame of every command, access to one port or picture, memory units. -/

namespace Sys2Proof.Machine

/-! ### Access to the parts of the state -/

/-- Port `p` changed by `f`. -/
def modPort (p : PortNo) (f : Port → Port) (s : State) : State := { s with ports := s.ports.set p (f s.ports[p]) }

/-- The session of port `p` changed by `f`. -/
def modSession (p : PortNo) (f : Session → Session) (s : State) : State :=
  modPort p (fun q => { q with session := f q.session }) s

/-- The counts of port `p`'s session changed by `f` (R152). -/
def modCounts (p : PortNo) (f : Counts → Counts) (s : State) : State :=
  modSession p (fun x => { x with counts := f x.counts }) s

/-- The link of port `p` changed by `f`. -/
def modLink (p : PortNo) (f : Link → Link) (s : State) : State := modPort p (fun q => { q with link := f q.link }) s

/-- Picture record `k` changed by `f`. -/
def modPic (k : Fin 16) (f : PictureRecord → PictureRecord) (s : State) : State := { s with pics := s.pics.set k (f s.pics[k]) }

/-- The drum changed by `f`. -/
def modDrum (f : Drum → Drum) (s : State) : State := { s with drum := f s.drum }

/-- The pipeline changed by `f`. -/
def modPipe (f : Pipeline → Pipeline) (s : State) : State := { s with pipe := f s.pipe }

/-- The Line Store changed by `f`. -/
def modStore (f : LineStore → LineStore) (s : State) : State := { s with store := f s.store }

/-- The four ports in order (log 20). -/
def allPorts : List PortNo := [0, 1, 2, 3]

/-- `f` for each port, in port order (log 20). -/
def forPorts (f : PortNo → State → State) (s : State) : State := allPorts.foldl (fun x p => f p x) s

/-! ### Time -/

/-- One second in µs. -/
def second : Nat := 1000000

/-- The greatest value of a 32-bit field. -/
def max32 : Nat := 4294967295

/-- The greatest value of a 16-bit field. -/
def max16 : Nat := 65535

/-- The greatest value of a byte. -/
def max8 : Nat := 255

/-- The timebase moved to the time of a command; a time gone by leaves it (log 1). -/
def advance (t : Nat) (s : State) : State :=
  { s with now := max s.now t, clock := { s.clock with micros := s.clock.micros + (max s.now t - s.now) } }

/-- A timer that is running and has reached its expiry time. -/
def due (timer : Option Nat) (now : Nat) : Bool :=
  match timer with
  | some e => decide (e ≤ now)
  | none => false

/-- What every command does around its effect `f`: the timebase moves; while RESET is low nothing else happens (log 22); else the
effect takes place and the Status Writer learns which records it changed (R173). -/
def act (t : Nat) (f : State → State) (s : State) : Host.Outcome State Fault Refusal :=
  let a := advance t s
  .next (if a.inReset then a else noteChanges a (f a))

/-! ### Units of the memory bus (R6, R13, R21) -/

/-- The bytes of one line as memory holds them. -/
def readLine (s : State) (lineAddr picSamples : Nat) : List Byte := readBytes s.mem lineAddr picSamples

/-- A density byte at lane `i` of a desk write: its position in the line is below P (R6). -/
def densityLane (a : DeskAccess) (lineAddr picSamples i : Nat) : Bool :=
  laneOn a i && decide (wordAddr a + i - lineAddr < picSamples)

/-- R6: the new check of a check upkeep unit, from the old trailer word and the old bytes of the written word. -/
def upkeepCheck (a : DeskAccess) (lineAddr picSamples : Nat) (old : List Byte) (oldCheck : Nat) : Nat :=
  let inLine := lanes.filter (densityLane a lineAddr picSamples)
  let gone := (inLine.map fun i => (old.getD i 0).toNat).sum
  let come := (inLine.map fun i => (laneByte a.data i).toNat).sum
  (((oldCheck : Int) - gone + come) % 65536).toNat

/-- R6: the four accesses of a check upkeep unit. The trailer is the word at `lineAddr + stride - 4`. -/
def upkeepAccesses (m : Memory) (a : DeskAccess) (lineAddr stride picSamples : Nat) : List Access :=
  let old := readBytes m (wordAddr a) 4
  let trailer := readBytes m (lineAddr + stride - 4) 4
  let check := upkeepCheck a lineAddr picSamples old (fieldAt trailer 0 2)
  [[], deskBytes a, [],
   accessOf (lineAddr + stride - 4) (trailerBytes check (trailer.getD 2 0) (trailer.getD 3 0 ||| flagAltered))]

/-- R21: the accesses of a scan line write. -/
def scanLineAccesses (e : LineEntry) (lineAddr : Nat) : List Access :=
  let words := ceilDiv e.bytes.length 4
  wordAccesses lineAddr (padTo (4 * words) e.bytes) words ++
  [accessOf (lineAddr + 4 * words)
    (trailerBytes (lineCheck e.bytes) (BitVec.ofNat 8 e.line) (flagScanned ||| if e.heldRef then flagHeldRef else 0))]

/-- R22: the accesses of a trailer flag unit. -/
def trailerFlagAccesses (m : Memory) (trailer : Nat) : List Access :=
  let old := readBytes m trailer 4
  [[], accessOf trailer (old.take 3 ++ [old.getD 3 0 ||| flagSuspect])]

/-- R13, R181: the accesses of a slip record write: words 1 to 15, then the word at offset 0. -/
def slipAccesses (addr : Nat) (bytes : List Byte) : List Access :=
  wordAccesses (addr + 4) (bytes.drop 4) 15 ++ [accessOf addr (bytes.take 4)]

/-- R173, R183: the accesses of a status record write: the words of the area, then the change count byte (log 17). -/
def statusAccesses (addr : Nat) (bytes : List Byte) (count : Byte) : List Access :=
  wordAccesses addr bytes (ceilDiv bytes.length 4) ++ [accessOf (addr + bytes.length) [count]]

/-- The accesses of a unit as it stands in memory `s.mem`, reads being accesses that write nothing (log 6). The reads of the units
that only read are left out. -/
def unitAccesses (s : State) : BusUnit → List Access
  | .desk a (.forward _) => if a.write then [deskBytes a] else [[]]
  | .desk a (.upkeep _ _ lineAddr stride picSamples) => upkeepAccesses s.mem a lineAddr stride picSamples
  | .scanLine b lineAddr =>
    match s.pipe.buffers[b] with
    | some e => scanLineAccesses e lineAddr
    | none => []
  | .lineFetch .. => []
  | .trailerFlag f => trailerFlagAccesses s.mem f.trailer
  | .jobRead _ => []
  | .resultWrite addr bytes => [accessOf addr bytes]
  | .setupPart _ => []
  | .loadResult bytes => [accessOf (setupBase s.strap + 4) bytes]
  | .slipWrite _ addr bytes => slipAccesses addr bytes
  | .statusWrite _ addr bytes count => statusAccesses addr bytes count

/-- The end of the unit in progress: all its accesses are in memory and the arbiter is IDLE (R14). -/
def endUnit (u : BusUnit) (s : State) : State := { s with mem := applyAccesses s.mem (unitAccesses s u), unit := none }

/-! ### Pictures (R23, R28) -/

/-- One reference of picture `k` is released (R28). -/
def releaseRef (k : Fin 16) (s : State) : State := modPic k (fun r => { r with refs := r.refs - 1 }) s

/-- R23, R173: the Picture Table reports a change of record `k` to the Status Writer. -/
def reportPicture (k : Fin 16) (s : State) : State :=
  { s with status := { s.status with changed := s.status.changed.set (4 + k.val) true } }

/-- One reference of picture `k` is taken (R28). The change is reported here: where the job's slip is composed in the same event its
record ends as it began, and no comparison of the two would show it (R23, log 16). -/
def takeRef (k : Fin 16) (s : State) : State := reportPicture k (modPic k (fun r => { r with refs := r.refs + 1 }) s)

/-- The picture that is SCANNING, if any (R24). -/
def scanningPicture (s : State) : Option (Fin 16) := (List.finRange 16).find? fun k => s.pics[k].state = .scanning

/-- Base of the JOBS window of the adopted table. -/
def jobsBase (s : State) : Option Nat := (windowOf s.cfg.windows .jobs).map fun w => w.base

/-- Base of the SLIPS window of the adopted table. -/
def slipsBase (s : State) : Option Nat := (windowOf s.cfg.windows .slips).map fun w => w.base

/-- Base of the STATUS window of the adopted table. -/
def statusBase (s : State) : Option Nat := (windowOf s.cfg.windows .status).map fun w => w.base

end Sys2Proof.Machine
end

