-- ==== Sys2Proof/Machine/Staging.lean ====
section
/-! DEFINITION. The Line Store: sets, ways, pins, requests, installation, fetches and failures (R36-R48). -/

namespace Sys2Proof.Machine

/-! ### Sets and ways -/

/-- The set a line is staged in (R36). -/
def setIndex (pic : Fin 16) (line : Nat) : Fin 16 := Fin.ofNat 16 (line + 5 * pic.val)

/-- Way 0 (false) or way 1 (true) of a set. -/
def wayOf (c : LineSet) (w : Bool) : Way := if w then c.way1 else c.way0

/-- The set with one way replaced. -/
def putWay (c : LineSet) (w : Bool) (x : Way) : LineSet := if w then { c with way1 := x } else { c with way0 := x }

/-- The way just used becomes the more recent (R37). -/
def touch (w : Bool) (c : LineSet) : LineSet := { c with lru := !w }

/-- The way is in state `st` with tag (pic, line). -/
def tagged (st : WayState) (pic : Fin 16) (line : Nat) (x : Way) : Bool := x.state = st && x.pic = pic && x.line = line

/-- The way of a set that is in state `st` with tag (pic, line). -/
def findWay (st : WayState) (pic : Fin 16) (line : Nat) (c : LineSet) : Option Bool :=
  if tagged st pic line c.way0 then some false else if tagged st pic line c.way1 then some true else none

/-- The pin count (R36). -/
def pinCount (x : Way) : Nat := x.pins.toList.countP id

/-- VALID with pin count 0. -/
def unpinned (x : Way) : Bool := x.state = .valid && pinCount x = 0

/-- R37: the way to use for a line of no way's tag; none when the set is full for the purpose. -/
def chooseWay (c : LineSet) : Option Bool :=
  if c.way0.state = .invalid then some false
  else if c.way1.state = .invalid then some true
  else if unpinned (wayOf c c.lru) then some c.lru
  else if unpinned (wayOf c !c.lru) then some !c.lru
  else none

/-- No pins. -/
def noPins : Vector Bool 4 := Vector.replicate 4 false

/-- The set of a line changed by `f`. -/
def modSet (i : Fin 16) (f : LineSet → LineSet) (x : LineStore) : LineStore := { x with sets := x.sets.set i (f x.sets[i]) }

/-- The density bytes staged for (pic, line), none when no way is VALID with that tag. -/
def stagedBytes (x : LineStore) (pic : Fin 16) (line : Nat) : Option (List Byte) :=
  let c := x.sets[setIndex pic line]
  (findWay .valid pic line c).map fun w => (wayOf c w).bytes

/-- Port `p` pins the way VALID with tag (pic, line). -/
def holdsPin (x : LineStore) (p : PortNo) (pic : Fin 16) (line : Nat) : Bool :=
  let c := x.sets[setIndex pic line]
  match findWay .valid pic line c with
  | some w => (wayOf c w).pins[p]
  | none => false

/-- How many ways port `p` pins (R39). -/
def pinsHeld (x : LineStore) (p : PortNo) : Nat :=
  x.sets.toList.foldl (fun n c => n + c.way0.pins[p].toNat + c.way1.pins[p].toNat) 0

/-- R39: port `p` pins way `w`, which becomes the more recent. -/
def pinWay (p : PortNo) (w : Bool) (c : LineSet) : LineSet :=
  touch w (putWay c w { wayOf c w with pins := (wayOf c w).pins.set p true })

/-- Every way changed by `f`. -/
def mapWays (f : Way → Way) (x : LineStore) : LineStore :=
  { x with sets := x.sets.map fun c => { c with way0 := f c.way0, way1 := f c.way1 } }

/-- R47: the pin of port `p` on the way tagged (pic, line) drops. -/
def dropPin (p : PortNo) (pic : Fin 16) (line : Nat) (x : LineStore) : LineStore :=
  mapWays (fun w => if w.pic = pic && w.line = line then { w with pins := w.pins.set p false } else w) x

/-! ### Requests (R39, R40) -/

/-- R39: a port makes a request only while it holds fewer than two pins and has no request waiting. -/
def mayAsk (s : State) (p : PortNo) : Bool := decide (pinsHeld s.store p < 2) && s.ports[p].wait.isNone

/-- R39, R40: port `p` asks for (pic, line). A hit on a way it pins already leaves its pin as it was, and makes the way the more
recent. -/
def askLine (p : PortNo) (pic : Fin 16) (line : Nat) (s : State) : State :=
  let i := setIndex pic line
  let c := s.store.sets[i]
  match findWay .valid pic line c with
  | some w => modStore (modSet i (pinWay p w)) s
  | none =>
    let form := if (findWay .filling pic line c).isSome then WaitForm.joined else WaitForm.fetching
    modPort p (fun q => { q with wait := some { pic := pic, line := line, form := form } }) s

/-- R40: the waiting requests for (pic, line), now VALID in way `w`, are answered as hits, in port order (log 20). -/
def answerWaiters (pic : Fin 16) (line : Nat) (w : Bool) (s : State) : State :=
  forPorts (fun p x =>
    match x.ports[p].wait with
    | some q =>
      if q.pic = pic ∧ q.line = line then
        modPort p (fun y => { y with wait := none }) (modStore (modSet (setIndex pic line) (pinWay p w)) x)
      else x
    | none => x) s

/-- R40: a line fetch request may be presented: its set has a way that can be chosen and no failure is held back. -/
def presentable (s : State) (p : PortNo) : Bool :=
  match s.ports[p].wait with
  | some q => q.form = .fetching && s.store.heldFailure.isNone && (chooseWay s.store.sets[setIndex q.pic q.line]).isSome
  | none => false

/-- R40: a port's waiting request is withdrawn. -/
def withdrawWait (p : PortNo) (s : State) : State := modPort p (fun q => { q with wait := none }) s

/-- The line whose PICTURE frame is in transfer on the port, composed from its way (R47). -/
def composing (q : Port) : Option (Fin 16 × Nat) :=
  match q.link.transfer with
  | some { frame := .picture (some pic) line _ _ _, .. } => some (pic, line)
  | _ => none

/-- R47: all of a port's pins drop but the one on the way its PICTURE frame in transfer is composed from. -/
def dropPins (p : PortNo) (s : State) : State :=
  let kept := composing s.ports[p]
  modStore (mapWays fun w => if kept = some (w.pic, w.line) then w else { w with pins := w.pins.set p false }) s

/-! ### Installation (R38) -/

/-- R38: line (pic, line) is installed from the scan writer's buffer, and waiting requests for it are answered. -/
def installLine (pic : Fin 16) (line : Nat) (bytes : List Byte) (s : State) : State :=
  let i := setIndex pic line
  let c := s.store.sets[i]
  match findWay .valid pic line c with
  | some w => modStore (modSet i fun c => touch w (putWay c w { wayOf c w with bytes := bytes })) s
  | none =>
    match chooseWay c with
    | none => s
    | some w =>
      answerWaiters pic line w
        (modStore (modSet i fun c =>
          touch w (putWay c w { state := .valid, pic := pic, line := line, bytes := bytes, pins := noPins })) s)

/-! ### Fetches (R41-R44) -/

/-- R41: the way chosen at the grant of a fetch becomes FILLING. -/
def fillWay (pic : Fin 16) (line : Nat) (w : Bool) (s : State) : State :=
  modStore (modSet (setIndex pic line) fun c =>
    putWay c w { state := .filling, pic := pic, line := line, bytes := [], pins := noPins }) s

/-- R43: the fetched line passes verification against its trailer word. -/
def verifies (density : List Byte) (trailer : List Byte) (line : Nat) : Bool :=
  fieldAt trailer 0 2 = lineCheck density && byteAt trailer 2 = line % 256

/-- R44: how many trailer flag units the trailer writer holds at most. -/
def trailerListMax : Nat := 8

/-- R44: a failure joins the trailer writer's list if it has room and no entry for the trailer. -/
def joinTrailers (f : LineFailure) (s : State) : State :=
  if s.trailers.any fun g => g.trailer = f.trailer then s else { s with trailers := s.trailers ++ [f] }

/-- R44: a request for a trailer flag unit is passed to the trailer writer, or held back while its list is full. -/
def passFailure (f : LineFailure) (s : State) : State :=
  if (s.trailers.any fun g => g.trailer = f.trailer) || s.trailers.length < trailerListMax then joinTrailers f s
  else modStore (fun x => { x with heldFailure := some f }) s

/-- R44: a failure held back joins the list once it has room. -/
def releaseHeldFailure (s : State) : State :=
  match s.store.heldFailure with
  | some f =>
    if s.trailers.length < trailerListMax then joinTrailers f (modStore (fun x => { x with heldFailure := none }) s) else s
  | none => s

/-- R44: the effects of a failing fetch by the session of port `p`, whose request still stood or not. -/
def failFetch (p : PortNo) (stood : Bool) (f : LineFailure) (s : State) : State :=
  let s := modStore (fun x =>
    { x with checkErrors := bump max32 x.checkErrors, latch := match x.latch with | some g => some g | none => some f }) s
  let s := modPic f.pic (fun r => { r with checkErrors := bump max16 r.checkErrors }) s
  let s := if stood then modCounts p (fun c => { c with suspect := bump max16 c.suspect }) s else s
  passFailure f (raise classCheck s)

/-- Requests joined to a fetch that stages nothing wait again as misses (R41). -/
def unjoin (pic : Fin 16) (line : Nat) (s : State) : State :=
  forPorts (fun p x =>
    modPort p (fun q =>
      match q.wait with
      | some y => if y.pic = pic ∧ y.line = line then { q with wait := some { y with form := .fetching } } else q
      | none => q) x) s

/-- R41: the end of a line fetch for (pic, line) into way `w`, which read `density` and `trailer`; `dropped` says the picture was
released while it ran. -/
def endFetch (p : PortNo) (pic : Fin 16) (line : Nat) (w : Bool) (trailerAddr : Nat) (dropped : Bool) (density trailer : List Byte)
    (s : State) : State :=
  let i := setIndex pic line
  if dropped then
    unjoin pic line (modStore (modSet i fun c => putWay c w { wayOf c w with state := .invalid, pins := noPins }) s)
  else
    let stood :=
      match s.ports[p].wait with
      | some q => q.pic = pic && q.line = line && q.form = .granted
      | none => false
    let s := modStore (modSet i fun c => touch w (putWay c w { wayOf c w with state := .valid, bytes := density })) s
    let s := if verifies density trailer line then s
      else failFetch p stood { pic := pic, line := line, trailer := trailerAddr } s
    answerWaiters pic line w s

/-! ### Release (R42) and desk write hits (R48) -/

/-- R42: the Line Store at the release of picture `k`. R42 says that none of these ways is pinned, but R47 leaves a pin on one while a
PICTURE frame of a session that has ended is in transfer. The model drops that pin with the way (log 42), so that every pinned way is
VALID (R39). -/
def releaseStaged (k : Fin 16) (x : LineStore) : LineStore :=
  let y := mapWays (fun w => if w.state = .valid && w.pic = k then { w with state := .invalid, pins := noPins } else w) x
  { y with heldFailure := match y.heldFailure with | some f => if f.pic = k then none else some f | none => none }

/-- The bytes of a line at `lineAddr` with those density bytes of a desk write put in whose positions are at or above `least`. -/
def patchBytes (least : Nat) (a : DeskAccess) (lineAddr picSamples : Nat) (bytes : List Byte) : List Byte :=
  lanes.foldl (fun bs i =>
    if densityLane a lineAddr picSamples i && decide (least ≤ wordAddr a + i - lineAddr)
    then bs.set (wordAddr a + i - lineAddr) (laneByte a.data i) else bs) bytes

/-- R48: the staged copy of (pic, line) rewritten on a hit. -/
def hitStaged (a : DeskAccess) (pic : Fin 16) (line lineAddr picSamples : Nat) (x : LineStore) : LineStore :=
  modSet (setIndex pic line) (fun c =>
    match findWay .valid pic line c with
    | some w => putWay c w { wayOf c w with bytes := patchBytes 0 a lineAddr picSamples (wayOf c w).bytes }
    | none => c) x

end Sys2Proof.Machine
end

