-- ==== Sys2Proof/Machine/Coupler.lean ====
section
/-! DEFINITION. The coupler link: tone codes, frames as bytes, the caption checks, and the link's own operations (R111-R122, R184). -/

namespace Sys2Proof.Machine

/-! ### Tone codes (R119, R120) -/

/-- R119: the tone code of a density byte. -/
def toneCode (white black v : Nat) : Nat := ((white : Int) + (((black : Int) - white) * v + 127) / 255).toNat

/-- A tone code as two bytes. -/
def codeBytes (codes : List Nat) : List Byte := codes.flatMap (leBytes 2)

/-- The white and black codes of a port's settings (R125). -/
def tonesOf (c : PortSettings) : Tones := { white := c.white, black := c.black }

/-- R120: the codes of a PICTURE line. -/
def pictureCodes (c : Tones) (density : List Byte) : List Nat :=
  List.replicate 32 c.white ++ density.map fun v => toneCode c.white c.black v.toNat

/-- R120: the codes of a STANDBY line. -/
def standbyCodes (c : Tones) (picSamples : Nat) : List Nat := List.replicate (32 + picSamples) c.white

/-- R120: the codes of a PHASING line. -/
def phasingCodes (c : Tones) (picSamples : Nat) : List Nat :=
  List.replicate 8 c.black ++ List.replicate (24 + picSamples) c.white

/-! ### Caption checks (R122) -/

/-- LRC: the exclusive-or of the caption bytes. -/
def lrc (caption : List Byte) : Nat := (caption.foldl (fun a b => a ^^^ b) (0 : Byte)).toNat

/-- One step of the CRC-16 remainder. -/
def crcShift (r : BitVec 16) : BitVec 16 := if r.getLsbD 0 then (r >>> 1) ^^^ 0xA001 else r >>> 1

/-- The remainder after one more byte. -/
def crcByte (r : BitVec 16) (b : Byte) : BitVec 16 :=
  crcShift (crcShift (crcShift (crcShift (crcShift (crcShift (crcShift (crcShift (r ^^^ b.setWidth 16))))))))

/-- CRC-16 of a caption. -/
def crc16 (caption : List Byte) : Nat := (caption.foldl crcByte 0).toNat

/-- The check of a caption by the port's kind. -/
def captionCheck (c : PortSettings) (caption : List Byte) : Nat := if c.crc then crc16 caption else lrc caption

/-! ### Frames as bytes (R184) -/

/-- A LINE frame: kind, line time, code count, codes, kind fields. -/
def lineFrame (kind : Byte) (time : Nat) (codes : List Nat) (fields : List Byte) : List Byte :=
  [3, kind] ++ leBytes 4 time ++ leBytes 2 codes.length ++ codeBytes codes ++ fields

/-- FAIL cause as R184 codes it. -/
def failCode : FailCause → Nat
  | .busy => 1
  | .noAnswer => 2
  | .noDialtone => 3

/-- R184: the bytes of a frame. -/
def frameBytes : Frame → List Byte
  | .seize dest => 1 :: dest
  | .mode am white black => [2, flagByte am] ++ leBytes 2 white ++ leBytes 2 black
  | .flush => [5]
  | .release => [6]
  | .text sync caption check pad =>
    [4, BitVec.ofNat 8 sync, BitVec.ofNat 8 caption.length] ++ caption ++ leBytes 2 check ++ [BitVec.ofNat 8 pad]
  | .picture _ line c time bytes => lineFrame 1 time (pictureCodes c bytes) [BitVec.ofNat 8 line]
  | .phasing _ c time p => lineFrame 2 time (phasingCodes c p) []
  | .standby c time p => lineFrame 3 time (standbyCodes c p) []
  | .call continued band time => lineFrame 4 time [] [flagByte continued, BitVec.ofNat 8 band]
  | .trailer band len check time =>
    lineFrame 5 time [] ([BitVec.ofNat 8 band, BitVec.ofNat 8 len] ++ leBytes 2 check)
  | .query _ time => lineFrame 6 time [] []
  | .close time => lineFrame 7 time [] []
  | .closePart time => lineFrame 8 time [] []

/-! ### Items (R113) -/

/-- The item a frame hands over, none for a frame that is not one. -/
def itemOf : Frame → Option Item
  | .text _ _ _ _ => some .text
  | .picture _ line _ _ _ => some (.picture line)
  | .phasing ordinal _ _ _ => some (.phasing ordinal)
  | .standby _ _ _ => some .standby
  | .call _ _ _ => some .call
  | .trailer _ _ _ _ => some (.trailer true)
  | .query starts _ => some (.query starts)
  | .close _ => some .close
  | .closePart _ => some .closePart
  | .seize _ => none
  | .mode _ _ _ => none
  | .flush => none
  | .release => none

/-- R113: a LINE counts one unit, a TEXT two. -/
def itemUnits : Item → Nat
  | .text => 2
  | _ => 1

/-- Units of the frame in transfer; a dropped item holds none (log 12). -/
def transferUnits : Option Transfer → Nat
  | some x => if x.dropped then 0 else match itemOf x.frame with | some i => itemUnits i | none => 0
  | none => 0

/-- R113: the units held, the frame in transfer included. -/
def unitsHeld (l : Link) : Nat := (l.outstanding.map itemUnits).sum + transferUnits l.transfer

/-- R113: at most 2 units are outstanding. -/
def outstandingUnits (l : Link) : Nat := (l.outstanding.map itemUnits).sum

/-- The release timer's time (R112). -/
def releaseTime : Nat := 60 * second

/-! ### Sending frames -/

/-- R111: a frame is sent: its transfer begins if none is in progress, else it follows those asked for before it. -/
def sendFrame (f : Frame) (l : Link) : Link :=
  match l.transfer with
  | none => { l with transfer := some { frame := f } }
  | some _ => { l with frames := l.frames ++ [f] }

/-- R112, R114: the item of the frame in transfer is dropped: it holds no unit and joins no list at the transfer's end (log 12). -/
def dropTransfer (l : Link) : Link :=
  { l with transfer := l.transfer.map fun x => if (itemOf x.frame).isSome then { x with dropped := true } else x }

/-- R114: the session asks for FLUSH. -/
def askFlush (l : Link) : Link :=
  if l.state = .connected then sendFrame .flush { dropTransfer l with outstanding := [], flushing := true } else l

/-- R112: the session asks for RELEASE. While ON-HOOK no frame is sent and the release is complete at once. -/
def askRelease (now : Nat) (l : Link) : Link :=
  if l.state = .dialling ∨ l.state = .connected then
    sendFrame .release
      { dropTransfer l with
        state := .releasing, outstanding := [], flushing := false, releaseTimer := some (now + releaseTime) }
  else l

/-- R112: the effect of a DROP CARRIER on a CONNECTED link. R112 empties the list and says nothing of an item whose frame is in transfer:
the model drops that item too, so that none joins the list of a link that is ON-HOOK (log 12). -/
def loseCarrier (l : Link) : Link := { dropTransfer l with state := .onHook, outstanding := [], flushing := false }

/-- R112: UP on a DIALLING link: MODE is sent at once. -/
def linkUp (c : PortSettings) (l : Link) : Link := sendFrame (.mode c.am c.white c.black) { l with state := .connected }

/-- R113: an item may start: CONNECTED, not flushing, the path free, and room for `n` units. -/
def roomFor (n : Nat) (l : Link) : Bool :=
  l.state = .connected && !l.flushing && l.transfer.isNone && decide (unitsHeld l + n ≤ 2)

/-- R138: a verdict is taken: no DONE of an item handed before it starts the verdict timer. -/
def calmItem : Item → Item
  | .trailer _ => .trailer false
  | .query _ => .query false
  | i => i

/-- The same for a frame in transfer. -/
def calmFrame : Frame → Frame
  | .query _ time => .query false time
  | f => f

/-- The same for the whole link. -/
def calmLink (l : Link) : Link :=
  { l with
    outstanding := l.outstanding.map calmItem
    transfer := l.transfer.map fun x => { x with frame := calmFrame x.frame } }

/-- The same for the wishes. -/
def calmWish : Wish → Wish
  | .query _ => .query false
  | w => w

/-- R113: a DONE ITEM that is not discarded takes the oldest item off the list. -/
def takeDone (l : Link) : Option (Item × Link) :=
  if l.state = .connected ∧ l.flushing = false then
    match l.outstanding with
    | i :: rest => some (i, { l with outstanding := rest })
    | [] => none
  else none

/-! ### Line times (R117) -/

/-- Line time at a drum speed (R117). -/
def nominalTime (rpm : Nat) : Nat := roundDiv 60000000 rpm

/-- R117: the session line time of port `p`. In CALLING, and before, no READY of this session has been taken. -/
def sessionLineTime (s : State) (p : PortNo) : Nat :=
  let x := s.ports[p].session
  let scanRpm := match x.job with | some j => s.pics[j.pic].rpm | none => 0
  if x.state = .seizing ∨ x.state = .calling then nominalTime scanRpm
  else nominalTime (x.farRpm.getD scanRpm)

/-- R117: the line time of PICTURE line `line` on port `p`. -/
def pictureLineTime (s : State) (p : PortNo) (line : Nat) : Nat :=
  match s.ports[p].lineTimes.find? fun e => e.1 = line with
  | some e => e.2
  | none => sessionLineTime s p

/-! ### What a port hands next (R113, R133, R134, R136, R137) -/

/-- The line of port `p`'s settings. -/
def settings (s : State) (p : PortNo) : PortSettings := s.cfg.ports[p]

/-- B, the band length of a port (R127). -/
def bandLen (s : State) (p : PortNo) : Nat := (settings s p).bandLength

/-- The picture record of a job. -/
def picOf (s : State) (j : Job) : PictureRecord := s.pics[j.pic]

/-- The frame a wish asks for. -/
def wishFrame (s : State) (p : PortNo) (w : Wish) : Frame :=
  let x := s.ports[p].session
  let time := sessionLineTime s p
  match w with
  | .call => .call x.resumed (x.band % 256) time
  | .query starts => .query starts time
  | .close => .close time
  | .closePart => .closePart time

/-- R137: what a SENDING session hands: its next line, once staged and below the mark, or after its last line the TRAILER. -/
def sendingFrame (s : State) (p : PortNo) (j : Job) : Option Frame :=
  let x := s.ports[p].session
  if x.nextLine ≤ x.bandEnd then
    if holdsPin s.store p j.pic x.nextLine ∧ x.nextLine < (picOf s j).mark then
      some (.picture (some j.pic) x.nextLine (tonesOf (settings s p)) (pictureLineTime s p x.nextLine)
        ((stagedBytes s.store j.pic x.nextLine).getD []))
    else none
  else
    some (.trailer (x.band % 256) (x.bandEnd + 1 - x.band * bandLen s p) s.ports[p].bandCheck (sessionLineTime s p))

/-- The line item the session would hand now, if the link has room (R113). -/
def nextFrame (s : State) (p : PortNo) : Option Frame :=
  let x := s.ports[p].session
  match x.wishes, x.job with
  | w :: _, _ => some (wishFrame s p w)
  | [], none => none
  | [], some j =>
    match x.state with
    | .caption =>
      if x.counts.captionSent then none
      else some (.text (settings s p).sync j.caption (captionCheck (settings s p) j.caption) (settings s p).pad)
    | .phasing =>
      if x.phasingHanded < (settings s p).phasingLines then
        some (.phasing (x.phasingHanded + 1) (tonesOf (settings s p)) (sessionLineTime s p) (picOf s j).picSamples)
      else none
    | .sending => sendingFrame s p j
    | .standby | .held => some (.standby (tonesOf (settings s p)) (sessionLineTime s p) (picOf s j).picSamples)
    | _ => none

/-- Units of the item a frame hands over. -/
def frameUnits (f : Frame) : Nat := match itemOf f with | some i => itemUnits i | none => 0

/-- R118: the frame begins the hand-over of the session's band: it is the PICTURE line of the band's first line. -/
def beginsBand (x : Session) (len : Nat) (f : Frame) : Bool :=
  match f with
  | .picture _ line _ _ _ => line = x.band * len
  | _ => false

/-- R113, R118: the port starts the next item of port `p` if there is room. A wish that starts is no longer waiting, and the band check
accumulator is 0 when the hand-over of a band begins. -/
def pump (p : PortNo) (s : State) : State :=
  match nextFrame s p with
  | some f =>
    if roomFor (frameUnits f) s.ports[p].link then
      modPort p (fun q =>
        { q with
          bandCheck := if beginsBand q.session (bandLen s p) f then 0 else q.bandCheck
          session := { q.session with wishes := q.session.wishes.tail }, link := sendFrame f q.link }) s
    else s
  | none => s

/-- R137, R39: the line of the pass of port `p` at `offset` after its next line is asked for, once it is below the mark: once in the
pass, and again only if the port does not pin it (log 38). -/
def stageLine (p : PortNo) (offset : Nat) (s : State) : State :=
  let x := s.ports[p].session
  match x.job with
  | some j =>
    let n := x.nextLine + offset
    if x.state = .sending ∧ n ≤ x.bandEnd ∧ n < (picOf s j).mark ∧ (x.asked ≤ n ∨ holdsPin s.store p j.pic n = false) ∧
        mayAsk s p = true then
      modSession p (fun x => { x with asked := max x.asked (n + 1) }) (askLine p j.pic n s)
    else s
  | none => s

/-- What a port does on its own account after an event: it asks for the next lines of its pass and starts an item if there is room. -/
def service (p : PortNo) (s : State) : State := pump p (stageLine p 1 (stageLine p 0 s))

end Sys2Proof.Machine
end

