-- ==== Sys2Proof/Machine/Slips.lean ====
section
/-! DEFINITION. Receipt slips: their contents, composition, the slip writer's state, and their bytes (R154-R162, R181). -/

namespace Sys2Proof.Machine

/-- R158: outcome codes. -/
def outcomeCode : SlipOutcome → Nat
  | .delivered => 1
  | .deliveredNoReceipt => 2
  | .short => 3
  | .aborted => 4
  | .abortedUnsent => 5
  | .lineFailed => 6
  | .noAnswer => 7
  | .mismatchIoc => 8
  | .notPhased => 9
  | .noVerdict => 10
  | .farStalled => 11
  | .bandRejected => 12
  | .lineNoise => 13
  | .farHung => 14
  | .carrierLost => 15

/-- R158: the outcome sets the LINE notice. -/
def setsLine (o : SlipOutcome) : Bool := !(o = .delivered || o = .deliveredNoReceipt || o = .short)

/-- R162: every slip but ABORTED-UNSENT blocks its port. -/
def blocking (x : Slip) : Bool := x.outcome != .abortedUnsent

/-- R162: a blocking slip of port `p` is pending. -/
def blockingPending (c : Composer) (p : PortNo) : Bool := c.pending.any fun x => x.port = p && blocking x

/-! ### Contents (R152, R156) -/

/-- R152: the lines of the bands below the delivered mark. -/
def linesDelivered (r : PictureRecord) (bandLen delivered : Nat) : Nat :=
  let n := min (delivered * bandLen) r.lines
  if r.state = .cut then min n r.mark else n

/-- R156: a slip from a session record. The end time stands in the counts. -/
def slipOfSession (s : State) (p : PortNo) (j : Job) (o : PendingOutcome) : Slip :=
  let x := s.ports[p].session
  let r := picOf s j
  { jobId := j.id, port := p, pic := j.pic, tag := r.tag, dest := j.dest, outcome := o.outcome, detail := o.detail,
    prio := j.prio, bumped := j.bumped, planned := r.lines, deliveredLines := linesDelivered r (bandLen s p) x.delivered,
    farRpm := x.farRpm.getD 0, farIoc := x.farIoc.getD 0, counts := x.counts }

/-- R156: a slip from a saved context. -/
def slipOfContext (s : State) (p : PortNo) (c : Context) : Slip :=
  let r := picOf s c.job
  { jobId := c.job.id, port := p, pic := c.job.pic, tag := r.tag, dest := c.job.dest, outcome := .aborted, detail := 0,
    prio := c.job.prio, bumped := c.job.bumped, planned := r.lines,
    deliveredLines := linesDelivered r (bandLen s p) c.nextBand, farRpm := c.farRpm.getD 0, farIoc := c.farIoc.getD 0,
    counts := { c.counts with endTime := s.clock.seconds } }

/-- R156: a slip from a queue entry. -/
def slipOfJob (s : State) (p : PortNo) (j : Job) : Slip :=
  let r := picOf s j
  { jobId := j.id, port := p, pic := j.pic, tag := r.tag, dest := j.dest, outcome := .abortedUnsent, detail := 0,
    prio := j.prio, bumped := j.bumped, planned := r.lines, deliveredLines := 0, farRpm := 0, farIoc := 0,
    counts := { startTime := s.clock.seconds, endTime := s.clock.seconds } }

/-- R181: the flags byte of a slip. -/
def slipFlags (x : Slip) : Byte :=
  BitVec.ofNat 8 (x.counts.receiptPresent.toNat + 2 * x.counts.startedLive.toNat + 4 * x.counts.leftLive.toNat +
    8 * x.bumped.toNat + 16 * x.counts.captionSent.toNat)

/-- R181: the mark value FILLED. -/
def markFilled : Nat := 1

/-- R157, R181: the 64 bytes of a slip with its serial and its FILLED mark. -/
def slipBytes (serial : Nat) (x : Slip) : List Byte :=
  leBytes 4 markFilled ++ leBytes 4 serial ++ leSat 2 x.jobId ++ [BitVec.ofNat 8 x.port.val, BitVec.ofNat 8 x.pic.val] ++
  leBytes 4 x.tag.toNat ++ (padTo 8 x.dest).take 8 ++
  [BitVec.ofNat 8 (outcomeCode x.outcome), BitVec.ofNat 8 x.detail, BitVec.ofNat 8 x.prio, slipFlags x] ++
  leBytes 4 x.counts.startTime.toNat ++ leBytes 4 x.counts.endTime.toNat ++
  leSat 2 x.planned ++ leSat 2 x.deliveredLines ++ leSat 2 x.counts.firstSent ++ leSat 2 x.counts.repeated ++
  leSat 2 x.counts.standby ++ leSat 2 x.counts.slack ++ leSat 1 x.counts.captionBytes ++ leSat 1 x.farRpm ++ leSat 2 x.farIoc ++
  leBytes 4 x.counts.receipt ++ leSat 1 x.counts.preemptions ++ leSat 1 x.counts.collisions ++ leSat 1 x.counts.queries ++
  leSat 1 x.counts.noise ++ leSat 2 x.counts.suspect ++ leSat 2 x.counts.alterations

/-! ### The slip writer (R159) -/

/-- R159: the writer's state by its conditions. -/
def writerState (s : State) : WriterState :=
  let c := s.composer
  if c.pending.isEmpty then .idle
  else if c.nextSerial.isNone then .spent
  else if (slipsBase s).isNone then .noRing
  else if c.filled.getD c.index false then .blocked
  else .writing

/-- Entry to this state sets RING. -/
def setsRing (w : WriterState) : Bool := w = .blocked || w = .noRing || w = .spent

/-- R159: the writer judges its state; `w` is the state it left. -/
def judgeWriterFrom (w : WriterState) (s : State) : State :=
  let v := writerState s
  let s := { s with composer := { s.composer with writer := v } }
  if setsRing v ∧ v ≠ w then raise classRing s else s

/-- R159: the writer judges its state again. -/
def judgeWriter (s : State) : State := judgeWriterFrom s.composer.writer s

/-! ### Composition (R155) -/

/-- R162: a port whose session is IDLE and which has no active job enters SLIP-WAIT when a blocking slip of its own is composed. -/
def blockPort (p : PortNo) (s : State) : State :=
  if s.ports[p].session.state = .idle ∧ s.ports[p].active = none then
    modSession p (fun x => { x with state := .slipWait }) s
  else s

/-- R155: a slip is composed. -/
def compose (x : Slip) (s : State) : State :=
  let s := releaseRef x.pic s
  let s := if setsLine x.outcome then raise classLine s else s
  let s := { s with composer := { s.composer with pending := s.composer.pending ++ [x] } }
  let s := judgeWriter s
  if blocking x then blockPort x.port s else s

/-- R160: the next serial after one is written. -/
def serialAfter (n : Nat) : Option Nat := if n = max32 then none else some (n + 1)

/-- R161: slot `i` is taken. -/
def takeSlot (i : Nat) (s : State) : State :=
  judgeWriter { s with composer := { s.composer with filled := s.composer.filled.set i false } }

/-- R163: Job Intake takes `n` send jobs. -/
def openJobs (n : Nat) (s : State) : State := { s with composer := { s.composer with openJobs := s.composer.openJobs + n } }

end Sys2Proof.Machine
end

