-- ==== Sys2Proof/Machine/Sessions.lean ====
section
/-! DEFINITION. Sessions and port scheduling: the live set, bands, the end of a session, selection, preemption, aborts
(R72, R98-R108, R129-R150). -/

namespace Sys2Proof.Machine

/-! ### Times and limits (R128) -/

/-- Seize time. -/
def seizeTime : Nat := 60 * second
/-- READY time. -/
def readyTime : Nat := 30 * second
/-- PHASED time of a round. -/
def phasedTime : Nat := 5 * second
/-- Receipt time. -/
def receiptTime : Nat := 10 * second
/-- Collision quiet time. -/
def quietTime : Nat := 500000
/-- Phasing rounds. -/
def roundLimit : Nat := 3
/-- Queries per verdict. -/
def queryLimit : Nat := 3
/-- Consecutive WAITs a session bears. -/
def waitLimit : Nat := 8
/-- AGAINs that reject a band. -/
def againLimit : Nat := 4
/-- Collisions in a band that end the session. -/
def collisionLimit : Nat := 3
/-- Stale resends per band. -/
def staleLimit : Nat := 2
/-- Context slots per port (R104). -/
def contextSlots : Nat := 2
/-- Jobs a port's queue holds (R98). -/
def queueLimit : Nat := 8

/-! ### Reports to the Scan Pipeline (R72) -/

/-- PHASED. -/
def reportPhased (p : PortNo) (q : Pipeline) : Pipeline :=
  if q.state ≠ .idle ∧ q.candidates[p].isSome then { q with candidates := q.candidates.set p (some true) } else q

/-- WITHDRAWN. -/
def reportWithdrawn (p : PortNo) (q : Pipeline) : Pipeline :=
  if q.state ≠ .idle then { q with candidates := q.candidates.set p none } else q

/-- The awaited list of a hold, or no hold once it is empty (R84). -/
def holdOf (l : List Awaited) : Option (List Awaited) := if l.isEmpty then none else some l

/-- R84: port `p` leaves the awaited list. -/
def dropAwaited (p : PortNo) (q : Pipeline) : Pipeline :=
  { q with hold := match q.hold with | some l => holdOf (l.filter fun a => a.port ≠ p) | none => none }

/-- LEFT and BAND-GOOD: the port leaves the awaited list. -/
def reportDone (p : PortNo) (q : Pipeline) : Pipeline := if q.state ≠ .idle then dropAwaited p q else q

/-- TRAILER-PLAYED: the member's wait count starts (R83). -/
def reportTrailerPlayed (p : PortNo) (q : Pipeline) : Pipeline :=
  if q.state ≠ .idle then
    { q with hold := q.hold.map fun l => l.map fun a => if a.port = p ∧ a.count = none then { a with count := some 0 } else a }
  else q

/-! ### The live set (R149, R150) -/

/-- R150: a member leaves the live set; `report` says whether LEFT is reported. -/
def leaveLive (p : PortNo) (report : Bool) (s : State) : State :=
  if s.ports[p].session.live = .member then
    let s := modPort p (fun q =>
      { q with
        lineTimes := []
        session := { q.session with live := .none, counts := { q.session.counts with leftLive := true } } }) s
    if report then modPipe (reportDone p) s else s
  else s

/-- R150: a candidate ceases to be one; `report` says whether WITHDRAWN is reported. -/
def withdrawLive (p : PortNo) (report : Bool) (s : State) : State :=
  if s.ports[p].session.live = .candidate then
    let s := modSession p (fun x => { x with live := .none }) s
    if report then modPipe (reportWithdrawn p) s else s
  else s

/-- R144, R145, R146: the session leaves the live set or its candidates, and reports it. -/
def departLive (p : PortNo) (s : State) : State := withdrawLive p true (leaveLive p true s)

/-! ### Timers and wishes -/

/-- The session timer starts. -/
def startTimer (p : PortNo) (kind : TimerKind) (time : Nat) (s : State) : State :=
  modSession p (fun x => { x with timer := some { kind := kind, expiry := s.now + time } }) s

/-- The session asks to hand a one-line item (R113). -/
def wish (p : PortNo) (w : Wish) (s : State) : State := modSession p (fun x => { x with wishes := x.wishes ++ [w] }) s

/-- The session enters a state with no timer running. -/
def enterState (p : PortNo) (st : SessionState) (s : State) : State :=
  modSession p (fun x => { x with state := st, timer := none }) s

/-- R143 and R124: a far signal is discarded and counted. -/
def countNoise (p : PortNo) (s : State) : State := modCounts p (fun c => { c with noise := bump max8 c.noise }) s

/-! ### Release, slips and selection (R100, R104, R130, R144) -/

/-- The frame in transfer no longer belongs to a session (log 11). -/
def orphan (l : Link) : Link := { l with transfer := l.transfer.map fun x => { x with orphan := true } }

/-- R144: the release of an ended session is complete: its slip is composed and it stands in SLIP-WAIT. -/
def finishEnded (p : PortNo) (s : State) : State :=
  match s.ports[p].session.job, s.ports[p].session.outcome with
  | some j, some o =>
    let s := modCounts p (fun c => { c with endTime := s.clock.seconds }) s
    let slip := slipOfSession s p j o
    compose slip (modPort p (fun q =>
      { q with
        active := none, preempt := false, lineTimes := [], link := orphan q.link
        session := { q.session with state := .slipWait, timer := none } }) s)
  | _, _ => s

/-- R130: a session begins with this record: at once SHORT where its picture is CUT at or below its band, else in SEIZING. -/
def startWith (p : PortNo) (j : Job) (x : Session) (s : State) : State :=
  let r := picOf s j
  let s := modPort p (fun q => { q with active := some { job := j, begun := true }, lineTimes := [] }) s
  if r.state = .cut ∧ r.mark ≤ x.band * bandLen s p then
    finishEnded p (modSession p (fun _ => { x with state := .releasing, outcome := some { outcome := .short } }) s)
  else
    let s := modSession p (fun _ =>
      { x with state := .seizing, timer := some { kind := .seize, expiry := s.now + seizeTime } }) s
    modLink p (fun l => sendFrame (.seize j.dest) { l with state := .dialling }) s

/-- R130: a fresh session. -/
def startJob (p : PortNo) (j : Job) (candidate : Bool) (s : State) : State :=
  startWith p j
    { job := some j, live := if candidate then .candidate else .none, counts := { startTime := s.clock.seconds } } s

/-- R95, R162: a live send becomes the port's active job. Its session begins at once, or waits while a blocking slip of the port is
pending (log 28). -/
def activate (p : PortNo) (j : Job) (candidate : Bool) (s : State) : State :=
  if blockingPending s.composer p then modPort p (fun q => { q with active := some { job := j, begun := false } }) s
  else startJob p j candidate s

/-- R130, R148: a resumed session. -/
def startContext (p : PortNo) (c : Context) (s : State) : State :=
  startWith p c.job
    { job := some c.job, resumed := true, band := c.nextBand, delivered := c.nextBand, firstSent := c.firstSent,
      farRpm := c.farRpm, farIoc := c.farIoc, counts := c.counts } s

/-- R100: the port is free. -/
def freePort (s : State) (p : PortNo) : Bool :=
  s.ports[p].active.isNone && s.ports[p].session.state = .idle && !s.ports[p].hold && !blockingPending s.composer p

/-- R100: a free port selects. -/
def select (p : PortNo) (s : State) : State :=
  if freePort s p then
    match s.ports[p].queue, s.ports[p].contexts.getLast? with
    | [], none => s
    | j :: rest, none => startJob p j false (modPort p (fun q => { q with queue := rest }) s)
    | [], some c => startContext p c (modPort p (fun q => { q with contexts := q.contexts.dropLast }) s)
    | j :: rest, some c =>
      if c.job.prio < j.prio then startJob p j false (modPort p (fun q => { q with queue := rest }) s)
      else startContext p c (modPort p (fun q => { q with contexts := q.contexts.dropLast }) s)
  else s

/-- R102, R130, R162: an active job whose session has not begun begins once the session is IDLE and no blocking slip is pending, as a
live candidate where the Scan Pipeline still holds the port as one (log 28); a port with no active job selects. A hold set since the
bump does not keep the job from beginning: R105 says that a held port starts no new session, by way of R100, which is about selection;
R102 names the blocking slip alone (log 43). -/
def beginOrSelect (p : PortNo) (s : State) : State :=
  match s.ports[p].active with
  | some a =>
    if a.begun = false ∧ s.ports[p].session.state = .idle ∧ blockingPending s.composer p = false then
      startJob p a.job s.pipe.candidates[p].isSome s
    else s
  | none => select p s

/-- The session record is emptied and the session is IDLE (R127). -/
def emptySession (p : PortNo) (s : State) : State :=
  modPort p (fun q => { q with session := {}, lineTimes := [], link := orphan q.link }) s

/-- R104, R146: the context saved of a parted session. -/
def contextOf (x : Session) (j : Job) : Context :=
  { job := j, nextBand := x.band, firstSent := x.firstSent, counts := x.counts, parity := x.band % 2, farRpm := x.farRpm,
    farIoc := x.farIoc }

/-- R104: the parted session's context is saved, and the session is IDLE. -/
def saveContext (p : PortNo) (s : State) : State :=
  match s.ports[p].session.job with
  | some j =>
    emptySession p (modPort p (fun q => { q with active := none, contexts := q.contexts ++ [contextOf q.session j] }) s)
  | none => s

/-- R144, R145, R146: the session is told that its release is complete. -/
def releaseComplete (p : PortNo) (s : State) : State :=
  let x := s.ports[p].session
  if x.state = .releasing then
    match x.outcome, x.ending with
    | some _, _ => finishEnded p s
    | none, .parted => select p (saveContext p s)
    | none, .bumped => beginOrSelect p (emptySession p s)
    | none, .ended => s
  else s

/-- The session asks for FLUSH, when `flush`, and RELEASE; on an ON-HOOK link the release is complete at once (R112). -/
def releaseLine (p : PortNo) (flush : Bool) (s : State) : State :=
  let s := modLink p (fun l => askRelease s.now (if flush then askFlush l else l)) s
  if s.ports[p].link.state = .onHook then releaseComplete p s else s

/-- R144: an outcome is decided and the session ends. The outcomes of a close ask for RELEASE alone; an abort taken in CLOSING
flushes as any abort does (R107; log 40). -/
def endSession (p : PortNo) (o : SlipOutcome) (detail : Nat) (s : State) : State :=
  let closing := s.ports[p].session.state = .closing ∧ o ≠ .aborted
  let s := withdrawWait p (dropPins p (departLive p s))
  let s := modPort p (fun q =>
    { q with
      preempt := false
      session :=
        { q.session with
          state := .releasing, outcome := some { outcome := o, detail := detail }, timer := none, wishes := [], ending := .ended } }) s
  releaseLine p (!closing) s

/-! ### Bands (R135) -/

/-- The outcome of the judgement of R135. -/
inductive BandJudgement
  | closes
  | ready (last : Nat)
  | notReady
deriving DecidableEq, Repr

/-- R135: band `b` of length up to `len` of picture `r`, for a MEMBER or not. -/
def judgeBand (r : PictureRecord) (member : Bool) (b len : Nat) : BandJudgement :=
  let f := b * len
  let full := min (f + len) r.lines
  if r.state = .cut ∧ r.mark ≤ f then .closes
  else if member = true ∧ f < r.mark then .ready (full - 1)
  else if member = false ∧ (r.state = .complete ∨ r.state = .scanning ∧ full ≤ r.mark) then .ready (full - 1)
  else if member = false ∧ r.state = .cut ∧ f < r.mark then .ready (min (f + len) r.mark - 1)
  else .notReady

/-- R142: the session closes. -/
def closeSession (p : PortNo) (s : State) : State := wish p .close (enterState p .closing s)

/-- R135: a pass of the current band begins. -/
def beginPass (p : PortNo) (last : Nat) (s : State) : State :=
  modPort p (fun q =>
    { q with
      bandCheck := 0
      session :=
        { q.session with
          state := .sending, timer := none, nextLine := q.session.band * bandLen s p, asked := q.session.band * bandLen s p,
          bandEnd := last, lastHanded := none,
          stale := false } }) s

/-- R135: band start for the current band. -/
def bandStart (p : PortNo) (s : State) : State :=
  match s.ports[p].session.job with
  | some j =>
    match judgeBand (picOf s j) (s.ports[p].session.live = .member) s.ports[p].session.band (bandLen s p) with
    | .closes => closeSession p s
    | .ready last => beginPass p last s
    | .notReady => enterState p .standby s
  | none => s

/-- R136: a session in STANDBY that is no candidate judges band start again. -/
def rejudge (p : PortNo) (s : State) : State :=
  let x := s.ports[p].session
  if x.state = .standby ∧ x.live ≠ .candidate then bandStart p s else s

/-- R147: the session enters HELD. -/
def enterHeld (p : PortNo) (s : State) : State := leaveLive p true (enterState p .held s)

/-- R134, R148: phasing has been reached. -/
def reachPhasing (p : PortNo) (s : State) : State :=
  if s.ports[p].session.live = .candidate then modPipe (reportPhased p) (enterState p .standby s)
  else if s.ports[p].hold then enterHeld p s
  else bandStart p s

/-! ### Boundaries (R103, R146, R147) -/

/-- R146: the session is ordered to part. -/
def part (p : PortNo) (s : State) : State :=
  let s := withdrawWait p (dropPins p (departLive p s))
  let s := modCounts p (fun c => { c with preemptions := bump max8 c.preemptions }) s
  wish p .closePart (enterState p .parting s)

/-- R103: the preempt request of port `p` stands: the head of its queue outranks its active job. -/
def requestStands (q : Port) : Bool :=
  match q.queue.head?, q.active with
  | some j, some a => q.preempt && decide (a.job.prio < j.prio)
  | _, _ => false

/-- R103, R147: a band boundary. The session parts, enters HELD, or goes on with `goOn`. -/
def boundary (p : PortNo) (goOn : State → State) (s : State) : State :=
  let stands := requestStands s.ports[p]
  let s := modPort p (fun q => { q with preempt := false }) s
  if stands then part p s
  else if s.ports[p].hold then enterHeld p s
  else goOn s

/-- R146: the part goes on to release. -/
def releaseParted (p : PortNo) (s : State) : State :=
  releaseLine p false
    (modSession p (fun x => { x with state := .releasing, timer := none, wishes := [], ending := .parted }) s)

/-! ### Queues, preemption and bumping (R98, R101, R102) -/

/-- R98: a new SEND stands after all entries of its priority. -/
def insertSend (j : Job) (q : List Job) : List Job :=
  q.takeWhile (fun e => j.prio ≤ e.prio) ++ j :: q.dropWhile fun e => j.prio ≤ e.prio

/-- R98, R102: a bumped job stands before all entries of its priority. -/
def insertBumped (j : Job) (q : List Job) : List Job :=
  q.takeWhile (fun e => j.prio < e.prio) ++ j :: q.dropWhile fun e => j.prio < e.prio

/-- R102, R145: the active job is bumped for `c`, an entry of the queue. -/
def bumpJob (p : PortNo) (displaced c : Job) (s : State) : State :=
  let s := withdrawWait p (dropPins p (departLive p s))
  let s := modPort p (fun q =>
    { q with
      queue := insertBumped { displaced with bumped := true } (q.queue.erase c)
      active := some { job := c, begun := false }
      session := { q.session with state := .releasing, outcome := none, timer := none, wishes := [], ending := .bumped } }) s
  releaseLine p true s

/-- R101: the states in which a passing check sets the preempt request. -/
def preemptible (st : SessionState) : Bool :=
  st = .sending || st = .awaitVerdict || st = .waiting || st = .quiet || st = .standby

/-- R101: the preemption check with candidate `c`. R101's table of actions has no row for IDLE, where a port stands whose active job
waits for a blocking slip (R102, R162): when the check passes there, the model takes no action and `c` stays queued (log 44). -/
def checkPreempt (p : PortNo) (c : Job) (s : State) : State :=
  let q := s.ports[p]
  match q.active with
  | some a =>
    if a.job.prio < c.prio ∧ (settings s p).preempt = true ∧ q.contexts.length < contextSlots ∧ q.hold = false ∧
        q.preempt = false then
      if a.begun = true ∧ (q.session.state = .seizing ∨ q.session.state = .calling) then bumpJob p a.job c s
      else if preemptible q.session.state then modPort p (fun q => { q with preempt := true }) s
      else s
    else s
  | none => s

/-! ### Aborts (R107, R108, R145) -/

/-- The jobs an abort names: those of an id, or those of a picture. -/
inductive AbortTarget
  | id (n : Nat)
  | picture (k : Fin 16)
deriving DecidableEq, Repr

/-- The job is one the abort names. -/
def aims (t : AbortTarget) (j : Job) : Bool :=
  match t with
  | .id n => j.id = n
  | .picture k => j.pic = k

/-- R107: the active send job of a port as an abort finds it; one whose session's outcome is decided is no longer found. -/
def findActive (t : AbortTarget) (q : Port) : Option ActiveJob :=
  match q.active with
  | some a => if aims t a.job ∧ (a.begun = false ∨ q.session.outcome = none) then some a else none
  | none => none

/-- R107: some send job of the port is found. -/
def findsJob (t : AbortTarget) (q : Port) : Bool :=
  q.queue.any (aims t) || (findActive t q).isSome || q.contexts.any fun c => aims t c.job

/-- R107: the queued jobs the abort names leave the queue. -/
def abortQueued (t : AbortTarget) (p : PortNo) (s : State) : State :=
  let gone := s.ports[p].queue.filter (aims t)
  let s := modPort p (fun q => { q with queue := q.queue.filter fun j => !aims t j }) s
  gone.foldl (fun x j => compose (slipOfJob x p j) x) s

/-- R107, R145: the active job the abort names. A part that goes on keeps its way to the release, with ABORTED pending. A live send
whose session has not begun is no candidate any more, and WITHDRAWN is reported of it (R72, log 28). -/
def abortActive (t : AbortTarget) (p : PortNo) (s : State) : State :=
  match findActive t s.ports[p] with
  | none => s
  | some a =>
    let s := modPort p (fun q => { q with preempt := false }) s
    if a.begun = false then
      compose (slipOfJob s p a.job) (modPipe (reportWithdrawn p) (modPort p (fun q => { q with active := none }) s))
    else if s.ports[p].session.state = .parting ∨ s.ports[p].session.state = .releasing then
      modSession p (fun x => { x with outcome := some { outcome := .aborted } }) s
    else endSession p .aborted 0 s

/-- R107: the saved contexts the abort names leave their slots, oldest first. -/
def abortContexts (t : AbortTarget) (p : PortNo) (s : State) : State :=
  let gone := s.ports[p].contexts.filter fun c => aims t c.job
  let s := modPort p (fun q => { q with contexts := q.contexts.filter fun c => !aims t c.job }) s
  gone.foldl (fun x c => compose (slipOfContext x p c) x) s

/-- R107: every job the abort names on port `p`; the port then selects if it is free. -/
def abortPort (t : AbortTarget) (p : PortNo) (s : State) : State :=
  select p (abortContexts t p (abortActive t p (abortQueued t p s)))

/-! ### What the ports are told (R7, R25, R86) -/

/-- The session of port `p` conducts a job of picture `k`, and has a band. -/
def conducts (k : Fin 16) (q : Port) : Bool :=
  match q.session.job with
  | some j => j.pic = k && !noBand q.session.state
  | none => false

/-- R25, R82: the ready notice of line `n` of picture `k` for port `p`. -/
def lineReady (k : Fin 16) (n time : Nat) (p : PortNo) (s : State) : State :=
  if conducts k s.ports[p] then
    let s := if s.ports[p].session.live = .member then
        modPort p (fun q => { q with lineTimes := q.lineTimes ++ [(n, time)] }) s
      else s
    service p (rejudge p s)
  else s

/-- R137: the picture of a pass under way has been CUT at `m`. -/
def shortenPass (m : Nat) (x : Session) : Session :=
  if x.state = .sending then { x with bandEnd := min x.bandEnd (m - 1) } else x

/-- R86, R137, R150: port `p` is told that the scan of picture `k` has ended. -/
def tellScanEnd (k : Fin 16) (p : PortNo) (s : State) : State :=
  if conducts k s.ports[p] then
    let s :=
      if s.pics[k].state = .cut then
        modSession p (shortenPass s.pics[k].mark) (withdrawLive p false (leaveLive p false s))
      else modSession p (fun x => { x with live := .none }) s
    service p (rejudge p s)
  else s

/-- R83, R85, R74: the Scan Pipeline orders port `p` out of the live set or its candidates. -/
def orderOut (p : PortNo) (s : State) : State :=
  if s.ports[p].session.live = .none then s
  else service p (rejudge p (withdrawLive p false (leaveLive p false s)))

/-- R149: port `p` is told that the scan has started and its candidate session is a member. -/
def joinLive (p : PortNo) (s : State) : State :=
  if s.ports[p].session.live = .candidate then
    service p (rejudge p
      (modSession p (fun x => { x with live := .member, counts := { x.counts with startedLive := true } }) s))
  else s

/-- R151: a session is told of a desk write to line `n` of its picture. -/
def alterSession (n len : Nat) (x : Session) : Session :=
  let f := x.band * len
  if n < f then { x with counts := { x.counts with alterations := bump max16 x.counts.alterations } }
  else if n < f + len then
    match x.lastHanded with
    | some h => if n ≤ h then { x with stale := true } else x
    | none => x
  else x

/-- R151: a saved context is told of a desk write to line `n` of its picture. -/
def alterContext (n len : Nat) (c : Context) : Context :=
  if n < c.nextBand * len then { c with counts := { c.counts with alterations := bump max16 c.counts.alterations } } else c

/-- R151: port `p` is told of a desk write to line `n` of picture `k`. -/
def tellAltered (k : Fin 16) (n : Nat) (p : PortNo) (s : State) : State :=
  let len := bandLen s p
  modPort p (fun q =>
    { q with
      session := if conducts k q then alterSession n len q.session else q.session
      contexts := q.contexts.map fun c => if c.job.pic = k then alterContext n len c else c }) s

end Sys2Proof.Machine
end

