-- ==== Sys2Proof/Machine/Scanning.lean ====
section
/-! DEFINITION. The drum drive and the Scan Pipeline: the speed loop, lock, lamp and carriage, the judgement of a revolution, tone
mapping, the live hold, cuts and the end of a scan (R27, R51-R67, R70-R86). -/

namespace Sys2Proof.Machine

/-! ### Times and limits -/

/-- Stall and coast time (R56, R59). -/
def stallTime : Nat := 250000
/-- Spin-up time (R57). -/
def spinUpTime : Nat := 20 * second
/-- Slip time (R57). -/
def slipTime : Nat := 10 * second
/-- Start limit (R74). -/
def startLimitTime : Nat := 60 * second
/-- Time between two reverse steps (R65). -/
def homingPeriod : Nat := 500
/-- Greatest number of reverse steps (R65). -/
def homingLimit : Nat := 40000
/-- The carriage position saturates here (R63). -/
def positionMax : Nat := 1048576
/-- Bounds of the speed loop integral (R50). -/
def integralMin : Int := -1048576
/-- Bounds of the speed loop integral (R50). -/
def integralMax : Int := 1048575
/-- Reference faults in a row that cut the picture (R78). -/
def faultLimit : Nat := 8

/-- T_rev (00_scope.md, section 6): 1,000,000, 666,667 or 500,000 µs. -/
def revTime (rpm : Nat) : Nat := roundDiv 60000000 rpm

/-- D_base of a speed (R55). -/
def dBase (c : DrumSettings) (rpm : Nat) : Nat := if rpm = 60 then c.dBase60 else if rpm = 90 then c.dBase90 else c.dBase120

/-- The three loop states (R50). -/
def looping (st : DrumState) : Bool := st = .spinUp || st = .locked || st = .slipped

/-! ### The speed loop (R52) -/

/-- R52: the error of a tooth period. -/
def loopError (rpm p : Nat) : Int := 120 * (p : Int) - revTime rpm

/-- R52: the integral after a pulse. -/
def loopIntegral (i e : Int) : Int := clampInt (i + e) integralMin integralMax

/-- R52: the duty after a pulse. -/
def loopDuty (c : DrumSettings) (rpm : Nat) (e i : Int) : Nat :=
  (clampInt ((dBase c rpm : Int) + ((c.kp : Int) * e + (c.ki : Int) * i) / 4096) 0 1023).toNat

/-- R52: a tach pulse in a loop state. -/
def tachLoop (c : DrumSettings) (now : Nat) (d : Drum) : Drum :=
  let d := { d with stall := some (now + stallTime) }
  match d.lastTach with
  | none => { d with lastTach := some now }
  | some t =>
    let rpm := d.target.getD 0
    let e := loopError rpm (now - t)
    let i := loopIntegral d.integral e
    { d with lastTach := some now, integral := i, duty := loopDuty c rpm e i }

/-! ### Drum states (R51, R58-R60, R64) -/

/-- A HOMING carriage stops and becomes UNKNOWN; steps not issued are dropped (R64). -/
def stopCarriage (d : Drum) : Drum :=
  { d with steps := [], carriage := match d.carriage with | .homing _ _ => .unknown | c => c }

/-- The lamp goes OFF (R62). -/
def lampOff (d : Drum) : Drum := { d with lamp := .off, settle := none }

/-- R51: entry to SPINUP at a speed. -/
def enterSpinUp (c : DrumSettings) (rpm now : Nat) (d : Drum) : Drum :=
  { d with
    state := .spinUp, cause := .noFault, target := some rpm, integral := 0, duty := dBase c rpm, lastTach := none,
    lastIndex := none, goodRun := 0, slip := none, idleSpin := none, coast := none, spinUp := some (now + spinUpTime),
    stall := some (now + stallTime), pulseState := none }

/-- R59: entry to STOPPING. -/
def enterStopping (now : Nat) (d : Drum) : Drum :=
  lampOff (stopCarriage
    { d with
      state := .stopping, duty := 0, integral := 0, stall := none, spinUp := none, slip := none, idleSpin := none, goodRun := 0,
      coast := some (now + stallTime) })

/-- R60: the drum's part of an entry to FAULT. -/
def enterFault (cause : FaultCause) (d : Drum) : Drum :=
  lampOff (stopCarriage
    { d with
      state := .fault, cause := cause, duty := 0, integral := 0, stall := none, spinUp := none, slip := none, idleSpin := none,
      coast := none, goodRun := 0 })

/-- R58: the idle spin timer starts; with a time of 0 s the drum enters STOPPING at once. -/
def startIdleSpin (c : DrumSettings) (now : Nat) (d : Drum) : Drum :=
  if c.idleSpin = 0 then enterStopping now d else { d with idleSpin := some (now + c.idleSpin * second) }

/-- R51: the drum at the taking of a SCAN job, but for its lamp and carriage. -/
def drumTake (c : DrumSettings) (rpm now : Nat) (d : Drum) : Drum :=
  let d := { d with scanHeld := true, idleSpin := none }
  if looping d.state ∧ d.target = some rpm then d else enterSpinUp c rpm now d

/-- R62: the lamp at the taking of a SCAN job. -/
def lampTake (c : DrumSettings) (now : Nat) (d : Drum) : Drum :=
  if d.lamp = .off then { d with lamp := .warming, settle := some (now + c.settleTenths * 100000) } else d

/-- R64: the carriage at the taking of a SCAN job. -/
def carriageTake (advance now : Nat) (d : Drum) : Drum :=
  let d := { d with advance := max 256 advance, fraction := 0 }
  if d.carriage = .known 0 then d
  else if d.homeClosed then { d with carriage := .known 0 }
  else { d with carriage := .homing now 0 }

/-- R61: the drum at the scan end of a picture in state `st` with cut cause `cut`. -/
def drumScanEnd (c : DrumSettings) (st : PicState) (cut : CutCause) (now : Nat) (d : Drum) : Drum :=
  let d := lampOff { d with scanHeld := false }
  if st = .cut ∧ cut = .aborted then (if looping d.state then enterStopping now d else d)
  else if st = .cut ∧ cut = .drumFault then d
  else if d.state = .locked then startIdleSpin c now d
  else d

/-! ### Lock (R54) -/

/-- R54: lock tolerance. -/
def lockTol (c : DrumSettings) (rpm : Nat) : Nat := revTime rpm * c.lockPpm / 1000000

/-- R54: |T_meas - T_rev|. -/
def deviation (a b : Nat) : Nat := if a ≤ b then b - a else a - b

/-- R54: entry to LOCKED. -/
def enterLocked (c : DrumSettings) (now : Nat) (d : Drum) : Drum :=
  let d := { d with state := .locked, goodRun := 3, spinUp := none, slip := none }
  if d.scanHeld then d else startIdleSpin c now d

/-- R54: entry to SLIPPED. -/
def enterSlipped (now : Nat) (d : Drum) : Drum :=
  { d with state := .slipped, goodRun := 0, slip := some (now + slipTime), idleSpin := none }

/-- R54: the lock decision on a measured period. -/
def lockDecision (c : DrumSettings) (now period : Nat) (d : Drum) : Drum :=
  let rpm := d.target.getD 0
  let tol := lockTol c rpm
  let dev := deviation period (revTime rpm)
  if d.state = .locked then
    if dev ≤ 2 * tol then d else enterSlipped now d
  else if dev ≤ tol then
    (if 2 ≤ d.goodRun then enterLocked c now d else { d with goodRun := d.goodRun + 1 })
  else { d with goodRun := 0 }

/-- R54: the period an index pulse measures, none on the first of a spin; T_meas saturates (log 24). -/
def measured (now : Nat) (d : Drum) : Option Nat := d.lastIndex.map fun t => min max32 (now - t)

/-- R54: an index pulse in a loop state. The state after it is what the next revolution starts from (R67). -/
def indexDecision (c : DrumSettings) (now : Nat) (d : Drum) : Drum :=
  let d' :=
    match measured now d with
    | none => { d with lastIndex := some now }
    | some t => lockDecision c now t { d with lastIndex := some now, tMeas := t }
  { d' with pulseState := some d'.state }

/-! ### Carriage stepping (R66) -/

/-- R66: the times of the forward steps of a window: `k` steps in positions 24 to 31 of a revolution of `v` µs and `s` samples. -/
def stepTimes (t0 v s k : Nat) : List Nat := (List.range k).map fun i => t0 + v * (24 * k + 8 * i) / (s * k)

/-- R66: a line has been accepted; the revolution beginning at `t0` has period `v` and `s` samples. -/
def carriageAccept (t0 v s : Nat) (d : Drum) : Drum :=
  match d.carriage with
  | .known _ =>
    let sum := d.fraction + d.advance
    { d with fraction := sum % 256, steps := d.steps ++ stepTimes t0 v s (sum / 256) }
  | _ => d

/-! ### References and tone mapping (R76, R79, R80) -/

/-- The code at a position of a revolution. -/
def codeAt (codes : List (Option (BitVec 12))) (i : Nat) : Nat := ((codes.getD i none).getD 0).toNat

/-- R76: the mean of eight codes from a position on. -/
def meanOf (codes : List (Option (BitVec 12))) (first : Nat) : Nat :=
  ((List.range 8).map fun i => codeAt codes (first + i)).sum / 8

/-- R76: W and B of a complete revolution. -/
def referencesOf (codes : List (Option (BitVec 12))) : Nat × Nat := (meanOf codes 2, meanOf codes 14)

/-- R76: the references are usable. -/
def usable (floor : Nat) (wb : Nat × Nat) : Bool := decide (wb.2 + floor ≤ wb.1)

/-- R79: the scaled value of a code. -/
def scaled (w b a : Nat) : Nat := if a ≤ b then 0 else if w ≤ a then 4095 else (a - b) * 4096 / (w - b)

/-- R80: the density byte of a scaled value by the tone curve. -/
def density (curve : List Nat) (r : Nat) : Nat :=
  let i := r / 256
  let f := r % 256
  let t0 := curve.getD i 0
  let delta := (curve.getD (i + 1) 0 : Int) - t0
  ((t0 : Int) + (delta * f + 128) / 256).toNat

/-- R79, R80: the density bytes of a line. -/
def mapLine (curve : List Nat) (wb : Nat × Nat) (p : Nat) (codes : List (Option (BitVec 12))) : List Byte :=
  ((codes.drop 32).take p).map fun a => BitVec.ofNat 8 (density curve (scaled wb.1 wb.2 (a.getD 0).toNat))

/-! ### Revolutions (R75, R77) -/

/-- R75: all S codes have been received. -/
def completeRev (samples : Nat) (r : Revolution) : Bool := r.codes.length = samples && r.codes.all Option.isSome

/-- R75: when sample `j` is due. -/
def sampleDue (r : Revolution) (samples j : Nat) : Nat := r.start + r.period * j / samples

/-- A buffer is FREE. -/
def bufferFree (q : Pipeline) : Bool := q.buffers[0].isNone || q.buffers[1].isNone

/-- Both line buffers are FULL (R15). -/
def bothFull (q : Pipeline) : Bool := q.buffers[0].isSome && q.buffers[1].isSome

/-- R75: a revolution begins at `t0` with period `v`. -/
def beginRev (t0 v : Nat) (q : Pipeline) : Pipeline :=
  { q with
    rev := some { start := t0, period := v, opened := decide (q.next < q.lines) && bufferFree q && q.hold.isNone }
    request := q.request.map fun r => { r with current := false } }

/-- R81: an entry is placed in a FREE buffer, buffer 0 if both are FREE. -/
def placeEntry (e : LineEntry) (q : Pipeline) : Pipeline :=
  if q.buffers[0].isNone then { q with buffers := q.buffers.set 0 (some e), older := if q.buffers[1].isSome then 1 else 0 }
  else { q with buffers := q.buffers.set 1 (some e), older := 0 }

/-- R83: the ports whose band line `n` ends, the ports being members. -/
def endingMembers (s : State) (n : Nat) : List PortNo :=
  allPorts.filter fun p =>
    s.ports[p].session.live = .member &&
      match s.pipe.bandLens[p] with
      | some b => (n + 1) % b = 0
      | none => false

/-- R83: the live hold set by the acceptance of line `n`. -/
def setHold (n : Nat) (s : State) : State :=
  if n + 1 < s.pipe.lines then
    modPipe (fun q => { q with hold := holdOf ((endingMembers s n).map fun p => { port := p }) }) s
  else s

/-- R81: a revolution is accepted for line N with references `wb`; the next revolution begins at `t0` with period `v`. -/
def acceptLine (wb : Nat × Nat) (heldRef : Bool) (t0 v : Nat) (r : Revolution) (s : State) : State :=
  let q := s.pipe
  let n := q.next
  let e : LineEntry :=
    { scanId := q.scanId.getD 0, pic := q.pic, line := n, bytes := mapLine s.cfg.drum.curve wb q.picSamples r.codes,
      heldRef := heldRef, lineTime := v }
  let s := modPipe (fun q =>
    let q := placeEntry e { q with next := n + 1 }
    if heldRef then q else { q with held := some wb, faultRun := 0 }) s
  setHold n (modDrum (carriageAccept t0 v q.samples) s)

/-! ### The end of a scan (R27, R86) -/

/-- R86: the pipeline enters IDLE. -/
def pipeIdle (q : Pipeline) : Pipeline :=
  { q with
    state := .idle, scanId := none, candidates := Vector.replicate 4 none, bandLens := Vector.replicate 4 none, held := none,
    faultRun := 0, rev := none, request := q.request.map fun r => { r with current := false }, hold := none,
    startLimit := .notStarted }

/-- R86: the scan of picture `k`, whose record says how, has ended. -/
def scanEnd (k : Fin 16) (s : State) : State :=
  let s := forPorts (tellScanEnd k) s
  let s := modDrum (drumScanEnd s.cfg.drum s.pics[k].state s.pics[k].cause s.now) s
  modPipe pipeIdle (raise classScan s)

/-- R27: a cut request for picture `k`. -/
def cutPicture (k : Fin 16) (cause : CutCause) (s : State) : State :=
  if s.pics[k].state = .scanning then
    scanEnd k (modPic k (fun r => { r with state := .cut, cause := cause, refs := r.refs - 1 }) s)
  else s

/-- R60: the drum enters FAULT. -/
def drumFault (cause : FaultCause) (s : State) : State :=
  let s := raise classDrum (modDrum (enterFault cause) s)
  if s.drum.scanHeld then cutPicture s.pipe.pic .drumFault s else s

/-! ### Judging a revolution (R77, R78) -/

/-- R78: a reference fault. -/
def referenceFault (t0 v : Nat) (r : Revolution) (s : State) : State :=
  let run := s.pipe.faultRun + 1
  let s := modPipe (fun q => { q with faultRun := run }) s
  if faultLimit ≤ run then cutPicture s.pipe.pic .referenceLost s
  else
    match s.pipe.held with
    | some wb => acceptLine wb true t0 v r s
    | none => s

/-- R77, step 1: the judgement of the revolution that ended, begun and ended in these drum states. -/
def judgeRev (startState endState : Option DrumState) (t0 v : Nat) (s : State) : State :=
  match s.pipe.rev with
  | none => s
  | some r =>
    if r.opened = false then s
    else if ¬(startState = some .locked ∧ endState = some .locked) then s
    else if completeRev s.pipe.samples r = false then s
    else if usable s.cfg.drum.spanFloor (referencesOf r.codes) then acceptLine (referencesOf r.codes) false t0 v r s
    else referenceFault t0 v r s

/-- R83: the wait counts that have started gain 1. -/
def countWaits (l : List Awaited) : List Awaited := l.map fun a => { a with count := a.count.map (· + 1) }

/-- R83: the port's wait has reached the limit. -/
def waitedOut (limit : Nat) (a : Awaited) : Bool :=
  match a.count with
  | some c => decide (limit ≤ c)
  | none => false

/-- R77, step 2: the wait counts of the live hold advance, and members that have waited out the limit are ordered to leave. -/
def advanceWaits (s : State) : State :=
  match s.pipe.hold with
  | none => s
  | some l =>
    let l := countWaits l
    let out := l.filter (waitedOut s.cfg.drum.holdLimit)
    let s := modPipe (fun q => { q with hold := holdOf (l.filter fun a => !waitedOut s.cfg.drum.holdLimit a) }) s
    out.foldl (fun x a => orderOut a.port x) s

/-- R77: a revolution event in RUNNING. The next revolution begins if the scan has not ended with the judgement. -/
def runRev (startState endState : Option DrumState) (t0 v : Nat) (s : State) : State :=
  let s := judgeRev startState endState t0 v s
  if s.pipe.state = .running then modPipe (beginRev t0 v) (advanceWaits s) else s

/-! ### Starting the scan (R73, R74) -/

/-- R73: the conditions of a start that the pipeline holds. -/
def startReady (q : Pipeline) : Bool := q.lampReady && q.homed && q.candidates.toList.all fun c => c != some false

/-- R73: the scan starts: the live set is formed and the first revolution of line 0 begins. -/
def startScan (t0 v : Nat) (s : State) : State :=
  let s := modPipe (fun q =>
    { q with
      state := .running, startLimit := .done
      bandLens := Vector.ofFn fun p => if q.candidates[p].isSome then some (bandLen s p) else none
      candidates := Vector.replicate 4 none }) s
  modPipe (beginRev t0 v) (forPorts joinLive s)

/-- R67, R73, R77: the revolution event. -/
def revolution (startState endState : Option DrumState) (t0 v : Nat) (s : State) : State :=
  match s.pipe.state with
  | .idle => s
  | .starting => if endState = some .locked ∧ startReady s.pipe = true then startScan t0 v s else s
  | .running => runRev startState endState t0 v s

/-- R74, R85: a lock change to `st` reaches the pipeline. -/
def lockChange (st : DrumState) (s : State) : State :=
  if st = .locked then
    if s.pipe.state = .starting ∧ s.pipe.startLimit = .notStarted then
      modPipe (fun q => { q with startLimit := .running (s.now + startLimitTime) }) s
    else s
  else if st = .slipped ∧ s.pipe.state = .running then
    forPorts (fun p x => if x.ports[p].session.live = .member then orderOut p x else x)
      (modPipe (fun q => { q with hold := none }) s)
  else s

/-- R54, R67: an index pulse in a loop state. -/
def indexPulse (s : State) : State :=
  let before := s.drum
  let after := indexDecision s.cfg.drum s.now before
  let s := { s with drum := after }
  let changed := before.state ≠ after.state
  let s := if changed then lockChange after.state s else s
  if s.drum.scanHeld then
    revolution before.pulseState (some after.state) s.now ((measured s.now before).getD (revTime (before.target.getD 0))) s
  else s

/-! ### Reports of the drum to the pipeline -/

/-- R62, R71: the lamp is ready. -/
def lampReport (q : Pipeline) : Pipeline := if q.state ≠ .idle then { q with lampReady := true } else q

/-- R64, R65, R71: the carriage is homed. -/
def homedReport (q : Pipeline) : Pipeline := if q.state ≠ .idle then { q with homed := true } else q

/-- R71: the pipeline at the taking of SCAN job `id` for picture `k`. -/
def pipeTake (id : Nat) (k : Fin 16) (r : PictureRecord) (live : List PortNo) (locked : Bool) (now : Nat) (q : Pipeline) :
    Pipeline :=
  { q with
    state := .starting, scanId := some id, pic := k, rpm := r.rpm, lines := r.lines, samples := r.samples,
    picSamples := r.picSamples, next := 0, held := none, faultRun := 0, hold := none, rev := none,
    candidates := Vector.ofFn fun p => if live.contains p then some false else none
    bandLens := Vector.replicate 4 none, lampReady := false, homed := false
    startLimit := if locked then .running (now + startLimitTime) else .notStarted }

/-- R95, steps 2 and 3: the drum and the pipeline take a SCAN job. -/
def takeScan (id : Nat) (k : Fin 16) (rpm advance : Nat) (live : List PortNo) (s : State) : State :=
  let s := modDrum (drumTake s.cfg.drum rpm s.now) s
  let s := modPipe (pipeTake id k s.pics[k] live (s.drum.state = .locked) s.now) s
  let s := modDrum (fun d => carriageTake advance s.now (lampTake s.cfg.drum s.now d)) s
  if s.drum.carriage = .known 0 then modPipe homedReport s else s

end Sys2Proof.Machine
end

