-- ==== Sys2Proof/Machine/Arbiter.lean ====
section
/-! DEFINITION. The Memory Arbiter: which requests wait, read off the state of their requesters, and what a grant does
(R3-R6, R10, R12-R17, R41, R159, R173). -/

namespace Sys2Proof.Machine

/-- Who is granted (R14). -/
inductive Requester
  | scanWriter
  | desk
  | lineFetch (p : PortNo)
  | intakeReader
  | setupLoader
  | slipWriter
  | trailerWriter
  | statusWriter
deriving DecidableEq, Repr

/-- The intake reader's request (R17, R91). -/
def intakeUnit (s : State) : Option BusUnit :=
  match s.intake.hand with
  | none => none
  | some h =>
    match h.phase with
    | .reading => some (.jobRead h.addr)
    | .caption => h.todo.head?.map fun c => .jobRead c.slotAddr
    | .answering => some (.resultWrite (h.addr + 4) h.result)

/-- The setup loader's request (R17, R167). -/
def loaderUnit (s : State) : Option BusUnit :=
  match s.loader.phase with
  | .idle => none
  | .reading part => some (.setupPart part)
  | .answering result => some (.loadResult result)

/-- The slip writer's request (R159, R181; log 29). -/
def slipUnit (s : State) : Option BusUnit :=
  let c := s.composer
  if c.writer = .writing then
    match c.pending, c.nextSerial, slipsBase s with
    | x :: _, some n, some b => some (.slipWrite c.index (b + 64 * c.index) (slipBytes n x))
    | _, _, _ => none
  else none

/-- The record the status writer would write: the lowest-numbered flagged one (R173). -/
def statusPick (s : State) : Option (Fin 27) :=
  if (statusBase s).isSome then (List.finRange 27).find? fun i => s.status.changed[i] else none

/-- The ports whose line fetch request is eligible, in port order (R16). -/
def eligiblePort (s : State) : Option PortNo := allPorts.find? fun p => presentable s p

/-- The scan writer has a full buffer (R15). -/
def anyFull (q : Pipeline) : Bool := q.buffers[0].isSome || q.buffers[1].isSome

/-- R14: the request granted, by level and within the level. -/
def nextRequest (s : State) : Option Requester :=
  if bothFull s.pipe then some .scanWriter
  else if s.desk.access.isSome then some .desk
  else if anyFull s.pipe then some .scanWriter
  else
    match eligiblePort s with
    | some p => some (.lineFetch p)
    | none =>
      if (intakeUnit s).isSome then some .intakeReader
      else if (loaderUnit s).isSome then some .setupLoader
      else if (slipUnit s).isSome then some .slipWriter
      else if !s.trailers.isEmpty then some .trailerWriter
      else if (statusPick s).isSome then some .statusWriter
      else none

/-- R3, R5, R10, R12: the desk request is granted: a unit starts, or the write is dropped and counted. -/
def grantDesk (s : State) : State :=
  match s.desk.access with
  | none => s
  | some a =>
    let released := { s.desk with access := none }
    match classify s a with
    | .unit form => { s with unit := some (.desk a form) }
    | .trailerDrop => { s with desk := released, drops := { s.drops with trailer := bump max32 s.drops.trailer } }
    | .collisionDrop k =>
      raise classDrop
        (modPic k (fun r => { r with collisionDrops := bump max16 r.collisionDrops })
          { s with desk := released, drops := { s.drops with collision := bump max32 s.drops.collision } })
    | .statusDrop => { s with desk := released, drops := { s.drops with status := bump max32 s.drops.status } }

/-- R15: the buffer the scan writer writes. -/
def fullBuffer (q : Pipeline) : Fin 2 := if bothFull q then q.older else if q.buffers[0].isSome then 0 else 1

/-- R82: the stride of the line an entry holds. -/
def entryStride (e : LineEntry) : Nat := 4 * ceilDiv e.bytes.length 4 + 4

/-- R13, R82: a scan line write starts. -/
def grantScanLine (s : State) : State :=
  let b := fullBuffer s.pipe
  match s.pipe.buffers[b] with
  | some e => { s with unit := some (.scanLine b (lineAddrOf s.cfg.slots[e.pic].base (entryStride e) e.line)) }
  | none => s

/-- R41: a line fetch starts: its way is chosen and becomes FILLING. -/
def grantFetch (p : PortNo) (s : State) : State :=
  match s.ports[p].wait with
  | none => s
  | some q =>
    match chooseWay s.store.sets[setIndex q.pic q.line] with
    | none => s
    | some w =>
      let r := s.pics[q.pic]
      let s := modPort p (fun x => { x with wait := some { q with form := .granted } }) (fillWay q.pic q.line w s)
      { s with
        unit := some (.lineFetch p q.pic q.line w (lineAddrOf s.cfg.slots[q.pic].base r.stride q.line) r.stride r.picSamples
          false) }

/-- The greatest value of a rewrite count (R173). -/
def max48 : Nat := 2 ^ 48 - 1

/-- R173: a status record write starts: the flag is cleared, the rewrite count gains 1, and the contents are those of now. -/
def grantStatus (s : State) : State :=
  match statusPick s, statusBase s with
  | some i, some b =>
    let n := bump max48 s.status.rewrites[i]
    { s with
      status := { changed := s.status.changed.set i false, rewrites := s.status.rewrites.set i n }
      unit := some (.statusWrite i (b + areaOffset i.val) (recordBytes s (fun o => Config.freeStatusByte i.val o n) i.val)
        (BitVec.ofNat 8 n)) }
  | _, _ => s

/-- R14: the grant of a request. -/
def grant (r : Requester) (s : State) : State :=
  match r with
  | .scanWriter => grantScanLine s
  | .desk => grantDesk s
  | .lineFetch p => grantFetch p s
  | .intakeReader => { s with unit := intakeUnit s }
  | .setupLoader => { s with unit := loaderUnit s }
  | .slipWriter => { s with unit := slipUnit s }
  | .trailerWriter => { s with unit := s.trailers.head?.map fun f => .trailerFlag f }
  | .statusWriter => grantStatus s

/-- R14: what an IDLE arbiter does when a request is waiting. -/
def arbitrate (s : State) : State :=
  if s.unit.isNone then
    match nextRequest s with
    | some r => grant r s
    | none => s
  else s

end Sys2Proof.Machine
end

