-- ==== Sys2Proof/Machine/Reset.lean ====
section
/-! DEFINITION. The commands of the two resets: POWER_ON, WARM_RESET, RESET_RELEASE (R2, R18, R35, R49, R69, R88, R110, R126, R153,
R166, R177). -/

namespace Sys2Proof.Machine

/-- R18: power-on begins. Memory is not touched (log 4); everything else is at its reset value. -/
def execPowerOn (t : Nat) (s : State) : Host.Outcome State Fault Refusal :=
  let s := advance t s
  .next { State.reset with pending := s.pending, now := s.now, inReset := true, mem := s.mem }

/-- R18: the accesses of the unit in progress that are made when RESET falls: the one under way completes and stays in memory, a result
word, a load result and a FILLED mark too (log 6). -/
def madeAccesses (s : State) (made : Nat) : List Access :=
  match s.unit with
  | some u => (unitAccesses s u).take (max 1 made)
  | none => []

/-- R160, R166: the next serial after a warm reset. It stands, and the next slip carries it, unless the access under way was the last of
a slip record write, whose FILLED mark then is made: that unit is at its end, not stopped, and its serial is used (log 6). -/
def serialKept (s : State) (made : Nat) : Option Nat :=
  match s.unit with
  | some (.slipWrite _ addr bytes) =>
    if (slipAccesses addr bytes).length ≤ max 1 made then s.composer.nextSerial.bind serialAfter else s.composer.nextSerial
  | _ => s.composer.nextSerial

/-- R18, R94, R166, R177: RESET falls. The job id counter, the next serial, the desk clock, memory and the held desk access stand. -/
def warmed (made : Nat) (s : State) : State :=
  { State.reset with
    pending := s.pending, now := s.now, inReset := true, resetCause := .pin, strap := s.strap
    mem := applyAccesses s.mem (madeAccesses s made), desk := s.desk
    intake := { jobId := s.intake.jobId }, composer := { nextSerial := serialKept s made }, clock := s.clock }

/-- R18: the warm reset. While RESET is low already there is no such event (log 22). -/
def execWarmReset (t made : Nat) (s : State) : Host.Outcome State Fault Refusal :=
  let s := advance t s
  .next (if s.inReset then s else warmed made s)

/-- R2, R18, R69: the reset ends: straps, cover and home switch are taken from their inputs; a held desk access requests again. -/
def execResetRelease (t : Nat) (straps : BitVec 3) (coverOpen homeClosed : Bool) (s : State) :
    Host.Outcome State Fault Refusal :=
  let s := advance t s
  .next (if s.inReset then
      { s with inReset := false, strap := straps, drum := { s.drum with coverOpen := coverOpen, homeClosed := homeClosed } }
    else s)

end Sys2Proof.Machine
end

