-- ==== Sys2Proof/Machine/DeskPath.lean ====
section
/-! DEFINITION. The commands of the desk path: DESK_ACCESS, ARBITER_GRANT and the ends of the desk's units (R3-R11, R14, R48, R90,
R151, R161, R167, R176). -/

namespace Sys2Proof.Machine

/-- R3, R18: an access arrives and is held until its unit ends; also while RESET is low (log 22). The desk holds one at a time. -/
def execDeskAccess (t : Nat) (a : DeskAccess) (s : State) : Host.Outcome State Fault Refusal :=
  let s := advance t s
  .next (if s.desk.access.isNone then { s with desk := { s.desk with access := some a } } else s)

/-- R14. -/
def execArbiterGrant (t : Nat) (s : State) : Host.Outcome State Fault Refusal := act t arbitrate s

/-- The end of the desk's forwarded unit if it is a read or write of this form and event; `f` is what the watch then does. -/
def endForward (read : Bool) (want : WatchEvent → Bool) (f : WatchEvent → State → State) (s : State) : State :=
  match s.unit with
  | some (.desk a (.forward e)) =>
    if a.write = read ∨ want e = false then s
    else
      let data := if read then wordOf (readBytes s.mem (wordAddr a) 4) else s.desk.data
      f e { endUnit (.desk a (.forward e)) s with desk := { access := none, data := data } }
  | _ => s

/-- R4: a forwarded write with no watched effect. -/
def execDeskWrite (t : Nat) (s : State) : Host.Outcome State Fault Refusal :=
  act t (endForward false (fun e => e = .plain) fun _ s => s) s

/-- R3: a forwarded read; the desk receives the data. -/
def execDeskRead (t : Nat) (s : State) : Host.Outcome State Fault Refusal :=
  act t (endForward true (fun _ => true) fun _ s => s) s

/-- R90: slot `j` is posted. -/
def postSlot (j : Nat) (s : State) : State :=
  if s.intake.queue.contains j then s else { s with intake := { s.intake with queue := s.intake.queue ++ [j] } }

/-- R8, R90: a posting event. -/
def execPostWordWrite (t : Nat) (s : State) : Host.Outcome State Fault Refusal :=
  act t (endForward false (fun e => match e with | .post _ => true | _ => false) fun e s =>
    match e with
    | .post j => postSlot j s
    | _ => s) s

/-- R9, R161: a slip slot is taken. -/
def execMarkWordWrite (t : Nat) (s : State) : Host.Outcome State Fault Refusal :=
  act t (endForward false (fun e => match e with | .mark _ => true | _ => false) fun e s =>
    match e with
    | .mark i => takeSlot i s
    | _ => s) s

/-- R167: a load event. -/
def startLoad (s : State) : State := if s.loader.phase = .idle then { s with loader := { phase := .reading 1 } } else s

/-- R11, R167. -/
def execLoadWordWrite (t : Nat) (s : State) : Host.Outcome State Fault Refusal :=
  act t (endForward false (fun e => e = .load) fun _ s => startLoad s) s

/-- R11, R176. -/
def execClearWordWrite (t : Nat) (s : State) : Host.Outcome State Fault Refusal :=
  act t (endForward false (fun e => match e with | .clear _ => true | _ => false) fun e s =>
    match e with
    | .clear c => clearNotices c s
    | _ => s) s

/-- R118: a frame composed from the way of (k, n) when a desk write hits that way: the positions at or above `least`, which are not yet
composed, get the bytes written to them. -/
def patchFrame (k : Fin 16) (n least : Nat) (a : DeskAccess) (lineAddr picSamples : Nat) (f : Frame) : Frame :=
  match f with
  | .picture pic line tones time bytes =>
    if pic = some k ∧ line = n then .picture pic line tones time (patchBytes least a lineAddr picSamples bytes) else f
  | _ => f

/-- R118, log 10: the frame in transfer on port `p` when a desk write hits line (k, n). -/
def patchTransfer (k : Fin 16) (n : Nat) (composed : List Nat) (a : DeskAccess) (lineAddr picSamples : Nat) (p : PortNo) (s : State) :
    State :=
  modLink p (fun l =>
    { l with
      transfer := l.transfer.map fun x =>
        { x with frame := patchFrame k n (composed.getD p.val 0) a lineAddr picSamples x.frame } }) s

/-- R7, R48, R151: the end of a check upkeep unit. -/
def endUpkeep (composed : List Nat) (s : State) : State :=
  match s.unit with
  | some (.desk a (.upkeep k n lineAddr stride picSamples)) =>
    let s := endUnit (.desk a (.upkeep k n lineAddr stride picSamples)) s
    let s := { s with desk := { s.desk with access := none } }
    let s := forPorts (patchTransfer k n composed a lineAddr picSamples) s
    let s := modStore (hitStaged a k n lineAddr picSamples) s
    let s := modPic k (fun r => { r with alteredWrites := bump max16 r.alteredWrites }) s
    forPorts (tellAltered k n) s
  | _ => s

/-- R7. -/
def execCheckUpkeepUnitEnd (t : Nat) (composed : List Nat) (s : State) : Host.Outcome State Fault Refusal :=
  act t (endUpkeep composed) s

end Sys2Proof.Machine
end

