-- ==== Sys2Proof/Machine/PartUnits.lean ====
section
/-! DEFINITION. The ends of the part's own units that carry lines and slips: SCAN_LINE_WRITE_END, LINE_FETCH_END,
TRAILER_FLAG_UNIT_END, SLIP_RECORD_WRITE_END, STATUS_RECORD_WRITE_END (R25, R26, R38, R41-R44, R82, R160, R173). -/

namespace Sys2Proof.Machine

/-- R25: the entry belongs to the current scan, its picture is SCANNING, and its line is the mark. -/
def advancesMark (s : State) (e : LineEntry) : Bool :=
  s.pipe.scanId = some e.scanId && s.pics[e.pic].state = .scanning && s.pics[e.pic].mark = e.line

/-- R25: the picture record when the mark advances. -/
def markAdvanced (e : LineEntry) (r : PictureRecord) : PictureRecord :=
  { r with mark := e.line + 1, heldLines := if e.heldRef then bump 4096 r.heldLines else r.heldLines }

/-- R26: a picture whose mark has reached L is COMPLETE, and its scan ends. -/
def completePicture (k : Fin 16) (s : State) : State :=
  if s.pics[k].mark = s.pics[k].lines then
    scanEnd k (modPic k (fun r => { r with state := .complete, refs := r.refs - 1 }) s)
  else s

/-- R25, R38, R82: the mark advances, the line is installed, and the ports are told that it is ready. -/
def advanceMark (e : LineEntry) (s : State) : State :=
  let s := installLine e.pic e.line e.bytes (modPic e.pic (markAdvanced e) s)
  completePicture e.pic (forPorts (lineReady e.pic e.line e.lineTime) s)

/-- R82: the buffer becomes FREE. -/
def freeBuffer (b : Fin 2) (s : State) : State := modPipe (fun q => { q with buffers := q.buffers.set b none }) s

/-- R82: the end of a scan line write. -/
def endScanLine (s : State) : State :=
  match s.unit with
  | some (.scanLine b lineAddr) =>
    match s.pipe.buffers[b] with
    | none => endUnit (.scanLine b lineAddr) s
    | some e =>
      let s := endUnit (.scanLine b lineAddr) s
      freeBuffer b (if advancesMark s e then advanceMark e s else s)
  | _ => s

/-- R82. -/
def execScanLineWriteEnd (t : Nat) (s : State) : Host.Outcome State Fault Refusal := act t endScanLine s

/-- R41: the end of a line fetch; ports that were answered go on with their pass. -/
def endLineFetch (s : State) : State :=
  match s.unit with
  | some (.lineFetch p pic line way lineAddr stride picSamples dropped) =>
    let s := endUnit (.lineFetch p pic line way lineAddr stride picSamples dropped) s
    let density := readBytes s.mem lineAddr picSamples
    let trailerAddr := lineAddr + stride - 4
    forPorts service (endFetch p pic line way trailerAddr dropped density (readBytes s.mem trailerAddr 4) s)
  | _ => s

/-- R41. -/
def execLineFetchEnd (t : Nat) (s : State) : Host.Outcome State Fault Refusal := act t endLineFetch s

/-- R44: the end of a trailer flag unit. -/
def endTrailerFlag (s : State) : State :=
  match s.unit with
  | some (.trailerFlag f) =>
    let s := endUnit (.trailerFlag f) s
    releaseHeldFailure { s with trailers := s.trailers.filter fun g => g.trailer ≠ f.trailer }
  | _ => s

/-- R44. -/
def execTrailerFlagUnitEnd (t : Nat) (s : State) : Host.Outcome State Fault Refusal := act t endTrailerFlag s

/-- R160, R162: the port is told that none of its blocking slips is pending. -/
def portFreed (p : PortNo) (s : State) : State :=
  beginOrSelect p (if s.ports[p].session.state = .slipWait then emptySession p s else s)

/-- R160: the Composer when the head slip stands in slot `i` of a ring of `capacity` slots. -/
def slipWritten (i capacity : Nat) (c : Composer) : Composer :=
  { c with
    filled := c.filled.set i true, pending := c.pending.tail, openJobs := c.openJobs - 1
    nextSerial := c.nextSerial.bind serialAfter, index := (c.index + 1) % capacity }

/-- R160: the end of a slip record write. -/
def endSlipWrite (s : State) : State :=
  match s.unit with
  | some (.slipWrite i addr bytes) =>
    let s := endUnit (.slipWrite i addr bytes) s
    match s.composer.pending with
    | [] => s
    | x :: _ =>
      let s := raise classSlip { s with composer := slipWritten i s.cfg.ringCapacity s.composer }
      let s := if blocking x ∧ blockingPending s.composer x.port = false then portFreed x.port s else s
      judgeWriter s
  | _ => s

/-- R160. -/
def execSlipRecordWriteEnd (t : Nat) (s : State) : Host.Outcome State Fault Refusal := act t endSlipWrite s

/-- R173: the end of a status record write. -/
def endStatusWrite (s : State) : State :=
  match s.unit with
  | some (.statusWrite i addr bytes count) => endUnit (.statusWrite i addr bytes count) s
  | _ => s

/-- R173. -/
def execStatusRecordWriteEnd (t : Nat) (s : State) : Host.Outcome State Fault Refusal := act t endStatusWrite s

end Sys2Proof.Machine
end

