-- ==== Sys2Proof/Machine/Jobs.lean ====
section
/-! DEFINITION. Job Intake: INTAKE_READER_TAKE, JOB_RECORD_READ_END, the seven taken job kinds, RESULT_WORD_WRITE_END
(R24, R29-R31, R90-R108, R163). -/

namespace Sys2Proof.Machine

/-! ### Taking a slot and reading it (R91, R163) -/

/-- R163: the count of open send jobs above which the reader takes no slot. -/
def openJobsLimit : Nat := 40

/-- R91, R163: the reader in IDLE takes the slot at the head of the queue. -/
def readerTake (s : State) : State :=
  match s.intake.hand, s.intake.queue, jobsBase s with
  | none, j :: rest, some b =>
    if s.composer.openJobs ≤ openJobsLimit then
      { s with intake := { s.intake with queue := rest, hand := some { slot := j, addr := b + 128 * j } } }
    else s
  | _, _, _ => s

/-- R91. -/
def execIntakeReaderTake (t : Nat) (s : State) : Host.Outcome State Fault Refusal := act t readerTake s

/-- R91: the caption reads a record asks for: none unless it carries a caption and every caption is in order. -/
def plannedReads (s : State) (record : List Byte) : List CaptionRead :=
  let sends := recSends record
  if sends.all fun c => captionOk (jobsBase s) s.cfg.jobSlots c.2 then
    match jobsBase s with
    | some b => sends.flatMap (captionReadsOf b)
    | none => []
  else []

/-- R91: the slot in hand after one read unit of it brought the 128 bytes `slot`. -/
def handRead (s : State) (slot : List Byte) (h : Hand) : Hand :=
  match h.phase with
  | .reading =>
    let todo := plannedReads s slot
    { h with record := slot, todo := todo, phase := if todo.isEmpty then .reading else .caption }
  | .caption =>
    match h.todo with
    | c :: rest =>
      { h with todo := rest, captions := h.captions.modify c.which fun bs => bs ++ captionPart c slot }
    | [] => h
  | .answering => h

/-- The end of a read unit of the slot in hand, at `addr`. -/
def finishRead (addr : Nat) (s : State) : State :=
  let slot := readBytes s.mem addr 128
  let s := endUnit (.jobRead addr) s
  { s with intake := { s.intake with hand := s.intake.hand.map (handRead s slot) } }

/-! ### Validation (R93) -/

/-- The ports a record names that exist. -/
def namedPorts (r : List Byte) : List PortNo :=
  match kindOf r with
  | some .scan => livePorts (recMask r)
  | some .send => if recSendPort r < 4 then [Fin.ofNat 4 (recSendPort r)] else []
  | some .holdPort | some .resumePort => if recPort r < 4 then [Fin.ofNat 4 (recPort r)] else []
  | _ => []

/-- Check 3. -/
def badPicture (r : List Byte) : Bool :=
  match kindOf r with
  | some .scan | some .send | some .abortPicture | some .releasePicture => decide (15 < recPicture r)
  | _ => false

/-- Check 4. -/
def badPort (r : List Byte) : Bool :=
  match kindOf r with
  | some .send => decide (3 < recSendPort r)
  | some .holdPort | some .resumePort => decide (3 < recPort r)
  | some .scan => decide (15 < recMask r)
  | _ => false

/-- Picture of a record that has passed check 3. -/
def recSlot (r : List Byte) : Fin 16 := Fin.ofNat 16 (recPicture r)

/-- Check 10. -/
def badLines (s : State) (r : List Byte) : Bool :=
  decide (recLines r < 32) || decide (4096 < recLines r) ||
    decide (s.cfg.slots[recSlot r].size < recLines r * strideOf (recIoc r))

/-- Check 13: the session is in any state but IDLE, a hold is in force, or a context is saved. A live port whose active job waits for a
blocking slip (R102, R162) passes (log 19). -/
def livePortBusy (q : Port) : Bool := q.session.state != .idle || q.hold || !q.contexts.isEmpty

/-- The record is of this kind. -/
def isKind (r : List Byte) (k : JobKind) : Bool := kindOf r = some k

/-- R93: the checks in order, each with whether it fails and its code. -/
def jobChecks (s : State) (r : List Byte) : List (Bool × Nat) :=
  let scan := isKind r .scan
  let send := isKind r .send
  let k := recSlot r
  [ (!s.adopted, 1),
    ((kindOf r).isNone, 2),
    (badPicture r, 3),
    (badPort r, 4),
    ((namedPorts r).any fun p => !(settings s p).enabled, 5),
    ((recSends r).any fun c => c.2.prio = 0 || decide (7 < c.2.prio), 6),
    (!(recSends r).all fun c => captionOk (jobsBase s) s.cfg.jobSlots c.2, 7),
    (scan && (decide (recIoc r < 200) || decide (600 < recIoc r)), 8),
    (scan && !validRpm (recRpm r), 9),
    (scan && badLines s r, 10),
    ((scan && s.pics[k].state != .empty) || (send && s.pics[k].state = .empty), 11),
    (scan && (scanningPicture s).isSome, 12),
    (scan && (livePorts (recMask r)).any fun p => livePortBusy s.ports[p], 13),
    (scan && s.drum.coverOpen, 14),
    (send && (namedPorts r).any fun p => decide (queueLimit ≤ s.ports[p].queue.length), 15),
    (isKind r .releasePicture && (s.pics[k].state = .scanning || (s.pics[k].state != .empty && s.pics[k].refs != 0)), 16),
    (isKind r .abortJob && allPorts.all fun p => !findsJob (.id (recTarget r)) s.ports[p], 17) ]

/-- R93: the refusal code of a job, none for one that is taken. -/
def refusalOf (s : State) (r : List Byte) : Option Nat := ((jobChecks s r).find? fun c => c.1).map fun c => c.2

/-! ### Dispatch (R24, R29-R31, R94-R96, R105-R108) -/

/-- R94: the job id after the last one given. -/
def nextJobId (n : Nat) : Nat := if max16 ≤ n then 1 else n + 1

/-- R24: the record of a picture whose SCAN job is taken with `live` live ports. -/
def scanRecord (r : List Byte) (live : Nat) : PictureRecord :=
  let ioc := recIoc r
  { state := .scanning, tag := recTag r, ioc := ioc, samples := samplesOf ioc, picSamples := picSamplesOf ioc,
    stride := strideOf ioc, lines := recLines r, mark := 0, rpm := recRpm r, cause := .noCause, refs := 1 + live }

/-- The send job of a record: `which` is the place of its caption. -/
def jobOf (h : Hand) (id : Nat) (which : Nat) (f : SendFields) (live : Bool) : Job :=
  { id := id, pic := recSlot h.record, dest := f.dest, prio := f.prio, caption := h.captions.getD which [], liveOrigin := live }

/-- R95, R98, R102: a live send becomes active on a port whose active job has not begun: that job is bumped back into the queue, or
ends ABORTED-UNSENT where the queue's 8 places are taken (log 19). -/
def giveWay (p : PortNo) (s : State) : State :=
  match s.ports[p].active with
  | some a =>
    if s.ports[p].queue.length < queueLimit then
      modPort p (fun q => { q with queue := insertBumped { a.job with bumped := true } q.queue, active := none }) s
    else compose (slipOfJob s p a.job) (modPort p (fun q => { q with active := none }) s)
  | none => s

/-- R95: a SCAN job is dispatched. Each live send's session begins at once, or waits for a blocking slip of its port (R162, log 28). -/
def dispatchScan (h : Hand) (id : Nat) (s : State) : State :=
  let r := h.record
  let k := recSlot r
  let live := livePorts (recMask r)
  let s := modPic k (fun _ => scanRecord r live.length) s
  let s := takeScan id k (recRpm r) (recAdvance r) live s
  let s := live.foldl (fun x p => activate p (jobOf h id p.val (liveFields r p) true) true (giveWay p x)) s
  openJobs live.length s

/-- R96: a SEND job is dispatched. -/
def dispatchSend (h : Hand) (id : Nat) (s : State) : State :=
  let r := h.record
  let p : PortNo := Fin.ofNat 4 (recSendPort r)
  let j := jobOf h id 0 (sendFields r) false
  let s := openJobs 1 (takeRef j.pic s)
  let s := modPort p (fun q => { q with queue := insertSend j q.queue }) s
  service p (select p (checkPreempt p j s))

/-- R107: an ABORT-JOB is dispatched. -/
def dispatchAbortJob (h : Hand) (s : State) : State := forPorts (abortPort (.id (recTarget h.record))) s

/-- R31, R108: an ABORT-PICTURE is dispatched. -/
def dispatchAbortPicture (h : Hand) (s : State) : State :=
  let k := recSlot h.record
  forPorts (abortPort (.picture k)) (cutPicture k .aborted s)

/-- R30: a fetch of picture `k` that runs while `k` is released stages nothing. -/
def dropFetch (k : Fin 16) (u : Option BusUnit) : Option BusUnit :=
  match u with
  | some (.lineFetch p pic line way lineAddr stride picSamples dropped) =>
    some (.lineFetch p pic line way lineAddr stride picSamples (dropped || pic = k))
  | u => u

/-- R47, R118: a frame composed from a way of picture `k` goes on with the way's bytes when the way is taken from it (log 42). -/
def detachFrame (k : Fin 16) (f : Frame) : Frame :=
  match f with
  | .picture pic line tones time bytes => if pic = some k then .picture none line tones time bytes else f
  | _ => f

/-- The same for the frame in transfer on port `p`. -/
def detachTransfer (k : Fin 16) (p : PortNo) (s : State) : State :=
  modLink p (fun l => { l with transfer := l.transfer.map fun x => { x with frame := detachFrame k x.frame } }) s

/-- R30, R42: picture `k` becomes EMPTY. -/
def releasePicture (k : Fin 16) (s : State) : State :=
  let s := forPorts (detachTransfer k) s
  let s := modStore (releaseStaged k) (modPic k (fun _ => {}) s)
  releaseHeldFailure { s with unit := dropFetch k s.unit, trailers := s.trailers.filter fun f => f.pic ≠ k }

/-- R30, R108: a RELEASE-PICTURE is dispatched. -/
def dispatchReleasePicture (h : Hand) (s : State) : State :=
  let k := recSlot h.record
  if s.pics[k].state = .empty then s else releasePicture k s

/-- R72, R105: a live send whose session waits to begin is a candidate no longer (log 28). -/
def withdrawWaiting (p : PortNo) (s : State) : State :=
  if s.ports[p].active.any fun a => !a.begun then modPipe (reportWithdrawn p) s else s

/-- R105: a HOLD-PORT is dispatched. -/
def dispatchHoldPort (h : Hand) (s : State) : State :=
  let p : PortNo := Fin.ofNat 4 (recPort h.record)
  if s.ports[p].hold then s
  else
    let s := withdrawWaiting p (modPort p (fun q => { q with hold := true, preempt := false }) s)
    if s.ports[p].session.live = .candidate then service p (rejudge p (withdrawLive p true s)) else s

/-- R106: a HELD session goes on with its next band. -/
def resumeHeld (p : PortNo) (s : State) : State := if s.ports[p].session.state = .held then bandStart p s else s

/-- R106: the preemption check with the head of the queue as candidate. -/
def checkHead (p : PortNo) (s : State) : State :=
  match s.ports[p].queue with
  | j :: _ => checkPreempt p j s
  | [] => s

/-- R106: a RESUME-PORT is dispatched. -/
def dispatchResumePort (h : Hand) (s : State) : State :=
  let p : PortNo := Fin.ofNat 4 (recPort h.record)
  if s.ports[p].hold then
    service p (select p (checkHead p (resumeHeld p (modPort p (fun q => { q with hold := false }) s))))
  else s

/-- R92: a taken job of kind `k` is dispatched. -/
def dispatch (k : JobKind) (h : Hand) (id : Nat) (s : State) : State :=
  match k with
  | .scan => dispatchScan h id s
  | .send => dispatchSend h id s
  | .abortJob => dispatchAbortJob h s
  | .abortPicture => dispatchAbortPicture h s
  | .releasePicture => dispatchReleasePicture h s
  | .holdPort => dispatchHoldPort h s
  | .resumePort => dispatchResumePort h s

/-! ### The answer (R91, R92, R97, R179) -/

/-- R179: the result word of a taken job. -/
def takenResult (id : Nat) : List Byte := [1, 0] ++ leBytes 2 id

/-- R179: the result word of a refused job. -/
def refusedResult (code : Nat) : List Byte := [2, BitVec.ofNat 8 code, 0, 0]

/-- R97: the slot in hand reaches ANSWERING; with no JOBS window no result word is written. -/
def answer (h : Hand) (result : List Byte) (s : State) : State :=
  if (jobsBase s).isSome then
    { s with intake := { s.intake with hand := some { h with phase := .answering, result := result } } }
  else raise classJob { s with intake := { s.intake with hand := none } }

/-- R92: the job in hand is judged, and taken or refused. -/
def judgeJob (h : Hand) (s : State) : State :=
  match refusalOf s h.record, kindOf h.record with
  | none, some k =>
    let id := nextJobId s.intake.jobId
    answer h (takenResult id) (dispatch k h id { s with intake := { s.intake with jobId := id } })
  | some code, _ => answer h (refusedResult code) s
  | none, none => s

/-- The slot in hand is ready to be judged: no caption read is left. -/
def readyHand (s : State) : Option Hand :=
  match s.intake.hand with
  | some h => if h.todo.isEmpty ∧ h.phase ≠ .answering then some h else none
  | none => none

/-- R91, R92: the end of a job record read or caption read. -/
def endJobRead (s : State) : State :=
  match s.unit with
  | some (.jobRead addr) =>
    let s := finishRead addr s
    match readyHand s with
    | some h => judgeJob h s
    | none => s
  | _ => s

/-- R91. -/
def execJobRecordReadEnd (t : Nat) (s : State) : Host.Outcome State Fault Refusal := act t endJobRead s

/-- Log 8: the last read unit of a job of kind `k` ends and the job is taken; any other unit, job or judgement is not this event. -/
def takenJob (k : JobKind) (s : State) : State :=
  match s.unit with
  | some (.jobRead addr) =>
    let x := finishRead addr s
    match readyHand x with
    | some h => if kindOf h.record = some k ∧ refusalOf x h.record = none then judgeJob h x else s
    | none => s
  | _ => s

/-- R95. -/
def execScan (t : Nat) (s : State) : Host.Outcome State Fault Refusal := act t (takenJob .scan) s

/-- R96. -/
def execSend (t : Nat) (s : State) : Host.Outcome State Fault Refusal := act t (takenJob .send) s

/-- R107. -/
def execAbortJob (t : Nat) (s : State) : Host.Outcome State Fault Refusal := act t (takenJob .abortJob) s

/-- R108. -/
def execAbortPicture (t : Nat) (s : State) : Host.Outcome State Fault Refusal := act t (takenJob .abortPicture) s

/-- R30. -/
def execReleasePicture (t : Nat) (s : State) : Host.Outcome State Fault Refusal := act t (takenJob .releasePicture) s

/-- R105. -/
def execHoldPort (t : Nat) (s : State) : Host.Outcome State Fault Refusal := act t (takenJob .holdPort) s

/-- R106. -/
def execResumePort (t : Nat) (s : State) : Host.Outcome State Fault Refusal := act t (takenJob .resumePort) s

/-- R91: the end of the result word write. -/
def endResultWrite (s : State) : State :=
  match s.unit with
  | some (.resultWrite addr bytes) =>
    let s := endUnit (.resultWrite addr bytes) s
    raise classJob { s with intake := { s.intake with hand := none } }
  | _ => s

/-- R91. -/
def execResultWordWriteEnd (t : Nat) (s : State) : Host.Outcome State Fault Refusal := act t endResultWrite s

end Sys2Proof.Machine
end

