-- ==== Sys2Proof/Machine/Setup.lean ====
section
/-! DEFINITION. The Setup Loader and the desk clock: SETUP_PART_READ_END, LOAD_RESULT_WRITE_END, DESK_CLOCK_SECOND
(R19, R97, R164, R165, R167-R174). -/

namespace Sys2Proof.Machine

/-! ### Checks (R1, R19, R169) -/

/-- A power of two from 4 KiB to 32 MiB (R1). -/
def windowSizeOk (size : Nat) : Bool := (List.range 14).any fun i => size = 2 ^ (12 + i)

/-- Check 1 for one entry. -/
def misaligned (w : WindowEntry) : Bool := w.kind != .off && (!windowSizeOk w.size || w.base % w.size != 0)

/-- Two areas share an address. -/
def overlap (b1 n1 b2 n2 : Nat) : Bool := decide (b1 < b2 + n2) && decide (b2 < b1 + n1)

/-- Check 2 for one entry. -/
def windowOverlaps (strap : BitVec 3) (ws : Vector WindowEntry 8) (i : Fin 8) : Bool :=
  ws[i].kind != .off &&
    (overlap ws[i].base ws[i].size (setupBase strap) setupSize ||
      (List.finRange 8).any fun j =>
        j != i && ws[j].kind != .off && overlap ws[i].base ws[i].size ws[j].base ws[j].size)

/-- How many entries of a kind an adopted table may have (R1). -/
def kindLimit (k : WindowKind) : Nat := if k = .picture then 4 else 1

/-- Check 3 for one entry: it lies beyond the limit of its kind. -/
def beyondCount (ws : Vector WindowEntry 8) (i : Fin 8) : Bool :=
  ws[i].kind != .off &&
    decide (kindLimit ws[i].kind < ((List.finRange 8).filter fun j => decide (j ≤ i) && ws[j].kind = ws[i].kind).length)

/-- Check 4: the entry named, none when the check passes. Where the JOBS and the SLIPS window are both too small, R169 does not say which
is named: the model names 0, JOBS (log 46). -/
def ringSizeFault (c : Setup) : Option Nat :=
  let tooBig (kind : WindowKind) (n : Nat) : Bool :=
    match windowOf c.windows kind with
    | some w => decide (w.size < n)
    | none => false
  if tooBig .jobs (c.jobSlots * 128) then some 0
  else if tooBig .slips (c.ringCapacity * 64) then some 1
  else none

/-- R165: the ring of one setup is not that of the other: presence or base of the SLIPS window, or capacity. -/
def ringDiffers (a b : Setup) : Bool :=
  (windowOf a.windows .slips).map (·.base) != (windowOf b.windows .slips).map (·.base) || a.ringCapacity != b.ringCapacity

/-- Check 5. -/
def ringInUse (s : State) (c : Setup) : Bool :=
  ringDiffers s.cfg c && (s.composer.filled.any id || !s.composer.pending.isEmpty)

/-- The slot lies wholly inside one PICTURE window (R19). -/
def insidePicture (ws : Vector WindowEntry 8) (e : SlotEntry) : Bool :=
  ws.toList.any fun w => w.kind = .picture && decide (w.base ≤ e.base) && decide (e.base + e.size ≤ w.base + w.size)

/-- Check 6 for one slot (R19). -/
def slotBad (c : Setup) (i : Fin 16) : Bool :=
  let e := c.slots[i]
  e.size != 0 &&
    (e.size % 4 != 0 || decide (e.size < 59520) || e.base % 4 != 0 || !insidePicture c.windows e ||
      (List.finRange 16).any fun j =>
        j != i && c.slots[j].size != 0 && overlap e.base e.size c.slots[j].base c.slots[j].size)

/-- Check 7 for one slot. -/
def slotInUse (s : State) (c : Setup) (i : Fin 16) : Bool := s.pics[i].state != .empty && c.slots[i] != s.cfg.slots[i]

/-- Check 8 for one port. -/
def portBusy (s : State) (c : Setup) (p : PortNo) : Bool :=
  c.ports[p] != s.cfg.ports[p] &&
    (s.ports[p].session.state != .idle || !s.ports[p].queue.isEmpty || !s.ports[p].contexts.isEmpty)

/-- R172: the four bytes of a load result word. -/
def loadWord (code : Nat) (adjusted : Bool) (entry : Nat) : List Byte :=
  [BitVec.ofNat 8 code, flagByte adjusted, BitVec.ofNat 8 entry, 0]

/-- A check that fails at the lowest entry of a list. -/
def refuseAt {n : Nat} (code : Nat) (bad : Fin n → Bool) : Option (List Byte) :=
  ((List.finRange n).find? bad).map fun i => loadWord code false i.val

/-- A check that fails as a whole. -/
def refuseIf (code : Nat) (bad : Bool) : Option (List Byte) := if bad then some (loadWord code false 0) else none

/-- Check 7. -/
def checkSlotsInUse (s : State) (c : Setup) : Option (List Byte) := refuseAt 6 (slotInUse s c)

/-- Check 5. -/
def checkRingInUse (s : State) (c : Setup) : Option (List Byte) := refuseIf 8 (ringInUse s c)

/-- R169: the checks judged after a part; the result word of the first that fails. -/
def partChecks (s : State) (c : Setup) (part : Nat) : Option (List Byte) :=
  match part with
  | 2 =>
    refuseAt 3 (fun i : Fin 8 => misaligned c.windows[i])
      |>.or (refuseAt 2 (windowOverlaps s.strap c.windows))
      |>.or (refuseAt 4 (beyondCount c.windows))
      |>.or ((ringSizeFault c).map fun e => loadWord 7 false e)
      |>.or (checkRingInUse s c)
  | 3 => (refuseAt 5 (slotBad c)).or (checkSlotsInUse s c)
  | n => if h : 5 ≤ n ∧ n < 9 then
      (if portBusy s c ⟨n - 5, by omega⟩ then some (loadWord 9 false (n - 5)) else none)
    else none

/-- R169: the adoption check. -/
def adoptionCheck (s : State) (c : Setup) : Option (List Byte) :=
  (checkSlotsInUse s c).or ((checkRingInUse s c).or (refuseAt 9 (portBusy s c)))

/-! ### Adoption (R97, R164, R165, R170, R171, R174) -/

/-- R97: the intake queue under an adopted setup. -/
def adoptQueue (c : Setup) (q : List Nat) : List Nat :=
  if (windowOf c.windows .jobs).isSome then q.filter fun j => decide (j < c.jobSlots) else []

/-- R164, R165: the Composer under an adopted setup with next slip serial `serial`. -/
def adoptComposer (old new : Setup) (serial : Nat) (c : Composer) : Composer :=
  let c := { c with nextSerial := if c.nextSerial = some 0 then some serial else c.nextSerial }
  if ringDiffers old new then { c with index := 0, filled := List.replicate new.ringCapacity false } else c

/-- R174: a STATUS window that is new or has another base or size has the whole page written. -/
def adoptStatus (old new : Setup) (w : StatusWriter) : StatusWriter :=
  if (windowOf new.windows .status).isSome ∧ windowOf new.windows .status ≠ windowOf old.windows .status
  then { w with changed := Vector.replicate 27 true } else w

/-- R170: the block is adopted in one step. -/
def adopt (l : Loader) (s : State) : State :=
  judgeWriter
    { s with
      cfg := l.block, adopted := true, notice := { s.notice with enables := l.enables }
      clock := { seconds := l.clock, micros := 0 }
      intake := { s.intake with queue := adoptQueue l.block s.intake.queue }
      composer := adoptComposer s.cfg l.block l.serial s.composer
      status := adoptStatus s.cfg l.block s.status }

/-! ### The load (R167) -/

/-- R167: what follows a part read: a refusal, the next part, or the adoption check and adoption. -/
def afterPart (part : Nat) (l : Loader) (s : State) : State :=
  match partChecks s l.block part with
  | some result => { s with loader := { l with phase := .answering result } }
  | none =>
    if part < 8 then { s with loader := { l with phase := .reading (part + 1) } }
    else
      match adoptionCheck s l.block with
      | some result => { s with loader := { l with phase := .answering result } }
      | none => { adopt l s with loader := { l with phase := .answering (loadWord 1 l.adjusted 0) } }

/-- R167: the end of a setup part read. -/
def endSetupPart (s : State) : State :=
  match s.unit with
  | some (.setupPart part) =>
    let bytes := readBytes s.mem (setupBase s.strap + (partSpan part).1) (partSpan part).2
    afterPart part (takePart s.loader part bytes) (endUnit (.setupPart part) s)
  | _ => s

/-- R167. -/
def execSetupPartReadEnd (t : Nat) (s : State) : Host.Outcome State Fault Refusal := act t endSetupPart s

/-- R167, R172: the end of the load result write. -/
def endLoadResult (s : State) : State :=
  match s.unit with
  | some (.loadResult bytes) =>
    let s := endUnit (.loadResult bytes) s
    raise classSetup { s with loadResult := bytes, loader := { s.loader with phase := .idle } }
  | _ => s

/-- R167. -/
def execLoadResultWriteEnd (t : Nat) (s : State) : Host.Outcome State Fault Refusal := act t endLoadResult s

/-! ### The desk clock (R171) -/

/-- R171: the second is up. -/
def clockSecond (s : State) : State :=
  if second ≤ s.clock.micros then { s with clock := { seconds := s.clock.seconds + 1, micros := s.clock.micros - second } } else s

/-- R171, R177: the desk clock advances, also while RESET is low. -/
def execDeskClockSecond (t : Nat) (s : State) : Host.Outcome State Fault Refusal :=
  let a := advance t s
  .next (if a.inReset then clockSecond a else noteChanges a (clockSecond a))

end Sys2Proof.Machine
end

