-- ==== Sys2Proof/Machine/DrumEvents.lean ====
section
/-! DEFINITION. The commands of the drum head: pulses, conversions, drum timers, cover, lamp, carriage, start limit (R52-R66, R74,
R75). -/

namespace Sys2Proof.Machine

/-! ### Pulses and conversions -/

/-- R52, R53: a tach pulse. -/
def tachPulse (s : State) : State :=
  if looping s.drum.state then modDrum (tachLoop s.cfg.drum s.now) s
  else if s.drum.state = .stopping then modDrum (fun d => { d with coast := some (s.now + stallTime) }) s
  else s

/-- R52, R53. -/
def execTachPulse (t : Nat) (s : State) : Host.Outcome State Fault Refusal := act t tachPulse s

/-- R53, R54, R67: an index pulse; in STOPPED, STOPPING and FAULT it is ignored. -/
def execIndexPulse (t : Nat) (s : State) : Host.Outcome State Fault Refusal :=
  act t (fun s => if looping s.drum.state then indexPulse s else s) s

/-- R75: a sample falls due: a conversion request is made, unless the previous one is still unanswered. -/
def conversionRequest (now : Nat) (q : Pipeline) : Pipeline :=
  match q.rev with
  | none => q
  | some r =>
    let j := r.codes.length
    if q.state = .running ∧ j < q.samples ∧ sampleDue r q.samples j ≤ now then
      { q with
        rev := some { r with codes := r.codes ++ [none] }
        request := match q.request with | some x => some x | none => some { position := j, current := true } }
    else q

/-- R75. -/
def execConversionRequest (t : Nat) (s : State) : Host.Outcome State Fault Refusal :=
  act t (fun s => modPipe (conversionRequest s.now) s) s

/-- R75: the converter answers the request outstanding; a code no request waits for is discarded. -/
def codeReady (code : BitVec 12) (q : Pipeline) : Pipeline :=
  match q.request with
  | none => q
  | some x =>
    { q with
      request := none
      rev := if x.current then q.rev.map fun r => { r with codes := r.codes.set x.position (some code) } else q.rev }

/-- R75. -/
def execCodeReady (t : Nat) (code : BitVec 12) (s : State) : Host.Outcome State Fault Refusal := act t (modPipe (codeReady code)) s

/-! ### Drum timers (R56-R59) -/

/-- R56. -/
def execStallTimerExpiry (t : Nat) (s : State) : Host.Outcome State Fault Refusal :=
  act t (fun s => if due s.drum.stall s.now then drumFault .stall s else s) s

/-- R57. -/
def execSpinUpTimerExpiry (t : Nat) (s : State) : Host.Outcome State Fault Refusal :=
  act t (fun s => if due s.drum.spinUp s.now then drumFault .spinUp s else s) s

/-- R57. -/
def execSlipTimerExpiry (t : Nat) (s : State) : Host.Outcome State Fault Refusal :=
  act t (fun s => if due s.drum.slip s.now then drumFault .slip s else s) s

/-- R58. -/
def execIdleSpinTimerExpiry (t : Nat) (s : State) : Host.Outcome State Fault Refusal :=
  act t (fun s => if due s.drum.idleSpin s.now then modDrum (enterStopping s.now) s else s) s

/-- R59: entry to STOPPED. -/
def enterStopped (d : Drum) : Drum := { d with state := .stopped, coast := none, lastTach := none, lastIndex := none }

/-- R59. -/
def execCoastTimerExpiry (t : Nat) (s : State) : Host.Outcome State Fault Refusal :=
  act t (fun s => if due s.drum.coast s.now then modDrum enterStopped s else s) s

/-! ### Cover and lamp (R60, R62) -/

/-- R60: the cover opens. -/
def openCover (s : State) : State :=
  if s.drum.coverOpen then s
  else
    let s := modDrum (fun d => { d with coverOpen := true }) s
    if s.drum.state = .stopped ∨ s.drum.state = .fault then s else drumFault .cover s

/-- R60. -/
def execCoverOpen (t : Nat) (s : State) : Host.Outcome State Fault Refusal := act t openCover s

/-- R60: a change to CLOSED only records CLOSED. -/
def execCoverClose (t : Nat) (s : State) : Host.Outcome State Fault Refusal :=
  act t (modDrum fun d => { d with coverOpen := false }) s

/-- R62: the lamp is READY, and the pipeline is told. -/
def settleLamp (s : State) : State :=
  if due s.drum.settle s.now then modPipe lampReport (modDrum (fun d => { d with lamp := .ready, settle := none }) s) else s

/-- R62. -/
def execSettleTimerExpiry (t : Nat) (s : State) : Host.Outcome State Fault Refusal := act t settleLamp s

/-! ### Carriage (R65, R66, R68) -/

/-- R65: a reverse step, one every 500 µs. -/
def homingStep (now : Nat) (d : Drum) : Drum :=
  match d.carriage with
  | .homing since n =>
    if n < homingLimit ∧ since + homingPeriod * (n + 1) ≤ now then { d with carriage := .homing since (n + 1) } else d
  | _ => d

/-- R65. -/
def execHomingStep (t : Nat) (s : State) : Host.Outcome State Fault Refusal := act t (fun s => modDrum (homingStep s.now) s) s

/-- The carriage is HOMING. -/
def isHoming (c : Carriage) : Bool := match c with | .homing _ _ => true | _ => false

/-- R65, R68: the home switch closes. -/
def closeHome (s : State) : State :=
  let homing := isHoming s.drum.carriage
  let s := modDrum (fun d => { d with homeClosed := true, carriage := if homing then .known 0 else d.carriage }) s
  if homing then modPipe homedReport s else s

/-- R65, R68. -/
def execHomeSwitchClose (t : Nat) (s : State) : Host.Outcome State Fault Refusal := act t closeHome s

/-- R65, R68: an opening switch changes the input alone. -/
def execHomeSwitchOpen (t : Nat) (s : State) : Host.Outcome State Fault Refusal :=
  act t (modDrum fun d => { d with homeClosed := false }) s

/-- R65: the homing limit is reached: the switch has not closed 500 µs after the last step. -/
def homingLimitReached (now : Nat) (c : Carriage) : Bool :=
  match c with
  | .homing since n => n = homingLimit && decide (since + homingPeriod * (homingLimit + 1) ≤ now)
  | _ => false

/-- R65: FAULT(CARRIAGE), whatever the drum state; the carriage becomes UNKNOWN by R64. -/
def execHomingLimitExpiry (t : Nat) (s : State) : Host.Outcome State Fault Refusal :=
  act t (fun s => if homingLimitReached s.now s.drum.carriage then drumFault .carriage s else s) s

/-- R66: a forward step is issued. One that falls due while the carriage is not KNOWN moves no position (log 41). -/
def carriageStep (now : Nat) (d : Drum) : Drum :=
  match d.steps with
  | due :: rest =>
    if due ≤ now then
      { d with
        steps := rest
        carriage := match d.carriage with | .known n => .known (bump positionMax n) | c => c }
    else d
  | [] => d

/-- R66. -/
def execCarriageStep (t : Nat) (s : State) : Host.Outcome State Fault Refusal := act t (fun s => modDrum (carriageStep s.now) s) s

/-! ### The start limit (R74) -/

/-- The candidates not marked phased. -/
def unphased (q : Pipeline) : List PortNo := allPorts.filter fun p => q.candidates[p] = some false

/-- R74: the start limit timer expires in STARTING. -/
def startLimitExpiry (s : State) : State :=
  match s.pipe.state, s.pipe.startLimit with
  | .starting, .running e =>
    if e ≤ s.now then
      let out := unphased s.pipe
      let s := modPipe (fun q =>
        { q with startLimit := .done, candidates := q.candidates.map fun c => if c = some false then none else c }) s
      out.foldl (fun x p => orderOut p x) s
    else s
  | _, _ => s

/-- R74. -/
def execStartLimitTimerExpiry (t : Nat) (s : State) : Host.Outcome State Fault Refusal := act t startLimitExpiry s

end Sys2Proof.Machine
end

