-- ==== Sys2Proof/Machine/CouplerReports.lean ====
section
/-! DEFINITION. What comes back from the couplers: frames carried to their end, link reports, and the far signals with what a session
makes of them (R111-R115, R118, R121, R123, R124, R131-R143). -/

namespace Sys2Proof.Machine

/-! ### The end of a frame's transfer (R111, R113, R118) -/

/-- R118: the band check accumulator gains the density bytes a frame was composed of, whatever has become of its item or its session. -/
def accumulate (f : Frame) (q : Port) : Port :=
  match f with
  | .picture _ _ _ _ bytes => { q with bandCheck := (q.bandCheck + lineCheck bytes) % 65536 }
  | _ => q

/-- R137: a PICTURE line is handed over. A dropped item still counts, and leaves the pass alone (log 11). -/
def pictureHanded (line : Nat) (dropped : Bool) (q : Port) : Port :=
  let x := q.session
  let first := decide (x.firstSent ≤ line)
  let counts :=
    if first then { x.counts with firstSent := bump max16 x.counts.firstSent }
    else { x.counts with repeated := bump max16 x.counts.repeated }
  let x := { x with counts := counts, firstSent := if first then line + 1 else x.firstSent }
  { q with
    lineTimes := q.lineTimes.filter fun e => e.1 ≠ line
    session := if dropped then x else { x with nextLine := line + 1, lastHanded := some line } }

/-- What the hand-over of a frame changes at its port (R121, R133, R134, R136, R137). -/
def handOver (f : Frame) (dropped : Bool) (q : Port) : Port :=
  let x := q.session
  match f with
  | .picture _ line _ _ _ => pictureHanded line dropped q
  | .text _ caption _ _ =>
    { q with session := { x with counts := { x.counts with captionSent := true, captionBytes := caption.length } } }
  | .phasing ordinal _ _ _ =>
    if x.state = .phasing ∧ dropped = false then { q with session := { x with phasingHanded := ordinal } } else q
  | .standby _ _ _ => { q with session := { x with counts := { x.counts with standby := bump max16 x.counts.standby } } }
  | .trailer _ _ _ _ =>
    if x.state = .sending ∧ dropped = false then { q with session := { x with state := .awaitVerdict, timer := none } } else q
  | _ => q

/-- The line whose way the frame is composed from, for its pin (R47). -/
def pictureOf (f : Frame) : Option (Fin 16 × Nat) :=
  match f with
  | .picture (some pic) line _ _ _ => some (pic, line)
  | _ => none

/-- R113: the link when the frame in transfer reaches its end: an item that is not dropped joins the list, and the next frame asked
for begins. -/
def endTransfer (x : Transfer) (bytes : List Byte) (l : Link) : Link :=
  let joins := match itemOf x.frame with | some i => if x.dropped then [] else [i] | none => []
  { l with
    outstanding := l.outstanding ++ joins, lastFrame := bytes
    transfer := l.frames.head?.map fun f => { frame := f }, frames := l.frames.tail }

/-- R47: the pin of a PICTURE frame drops at its end. -/
def unpinFrame (p : PortNo) (f : Frame) (s : State) : State :=
  match pictureOf f with
  | some (pic, line) => modStore (dropPin p pic line) s
  | none => s

/-- R111: the frame in transfer of port `p` reaches its end. -/
def frameEnd (p : PortNo) (s : State) : State :=
  match s.ports[p].link.transfer with
  | none => s
  | some x =>
    let s := modLink p (endTransfer x (frameBytes x.frame)) (unpinFrame p x.frame s)
    let s := modPort p (accumulate x.frame) s
    let s := if x.orphan then s else modPort p (handOver x.frame x.dropped) s
    service p s

/-- R111, R113, R118. -/
def execFrameTransferEnd (t : Nat) (p : PortNo) (s : State) : Host.Outcome State Fault Refusal := act t (frameEnd p) s

/-! ### Link reports (R112-R115) -/

/-- The link of port `p` is in state `st`. -/
def linkIs (s : State) (p : PortNo) (st : LinkState) : Bool := s.ports[p].link.state = st

/-- R112, R131: UP. -/
def takeUp (p : PortNo) (s : State) : State :=
  if linkIs s p .dialling then
    let s := modLink p (linkUp (settings s p)) s
    service p (startTimer p .ready readyTime (wish p .call (enterState p .calling s)))
  else s

/-- R112, R131. -/
def execUp (t : Nat) (p : PortNo) (s : State) : Host.Outcome State Fault Refusal := act t (takeUp p) s

/-- R112, R131: FAIL. -/
def takeFail (p : PortNo) (cause : FailCause) (s : State) : State :=
  if linkIs s p .dialling then
    endSession p .lineFailed (failCode cause) (modLink p (fun l => { l with state := .onHook }) s)
  else s

/-- R112, R131. -/
def execFail (t : Nat) (p : PortNo) (cause : FailCause) (s : State) : Host.Outcome State Fault Refusal := act t (takeFail p cause) s

/-- R134: phasing of a round begins. -/
def enterPhasing (p : PortNo) (round : Nat) (s : State) : State :=
  modSession p (fun x => { x with round := round, phasingHanded := 0 }) (enterState p .phasing s)

/-- R138: the TRAILER or QUERY a verdict is awaited for has been played. -/
def startVerdict (p : PortNo) (s : State) : State := startTimer p .verdict ((settings s p).verdictTime * second) s

/-- R113: the session is told which item was played (R133, R134, R136, R138, R142, R146). -/
def itemPlayed (p : PortNo) (i : Item) (s : State) : State :=
  let x := s.ports[p].session
  match i, x.state with
  | .text, .caption => enterPhasing p 1 s
  | .phasing ordinal, .phasing =>
    if ordinal = (settings s p).phasingLines then startTimer p .phased phasedTime (enterState p .awaitPhased s) else s
  | .standby, .standby => boundary p id s
  | .trailer starts, .awaitVerdict =>
    if starts then
      let s := startVerdict p s
      if x.live = .member then modPipe (reportTrailerPlayed p) s else s
    else s
  | .query starts, .awaitVerdict => if starts then startVerdict p s else s
  | .close, .closing => startTimer p .receipt receiptTime s
  | .closePart, .parting => releaseParted p s
  | _, _ => s

/-- R113: DONE ITEM. -/
def takeDoneItem (p : PortNo) (s : State) : State :=
  match takeDone s.ports[p].link with
  | some (i, l) => service p (itemPlayed p i (modLink p (fun _ => l) s))
  | none => s

/-- R113. -/
def execDoneItem (t : Nat) (p : PortNo) (s : State) : Host.Outcome State Fault Refusal := act t (takeDoneItem p) s

/-- R114: DONE FLUSH. -/
def takeDoneFlush (p : PortNo) (s : State) : State :=
  if linkIs s p .connected ∧ s.ports[p].link.flushing = true then
    service p (modLink p (fun l => { l with flushing := false }) s)
  else s

/-- R114. -/
def execDoneFlush (t : Nat) (p : PortNo) (s : State) : Host.Outcome State Fault Refusal := act t (takeDoneFlush p) s

/-- R115: SLACK. -/
def takeSlack (p : PortNo) (s : State) : State :=
  if linkIs s p .connected then modCounts p (fun c => { c with slack := bump max16 c.slack }) s else s

/-- R115. -/
def execSlack (t : Nat) (p : PortNo) (s : State) : Host.Outcome State Fault Refusal := act t (takeSlack p) s

/-- R142: a close ends, with the receipt received or not. -/
def endClose (p : PortNo) (received : Bool) (s : State) : State :=
  match s.ports[p].session.job with
  | some j =>
    let r := picOf s j
    let o := if linesDelivered r (bandLen s p) s.ports[p].session.delivered < r.lines then SlipOutcome.short
      else if received then .delivered else .deliveredNoReceipt
    endSession p o 0 s
  | none => s

/-- R143: carrier loss by state. -/
def sessionLost (p : PortNo) (s : State) : State :=
  match s.ports[p].session.state with
  | .closing => endClose p false s
  | .parting => releaseParted p s
  | .idle | .seizing | .releasing | .slipWait => s
  | _ => endSession p .carrierLost 0 s

/-- R112, R143: DROP CARRIER. -/
def takeDropCarrier (p : PortNo) (s : State) : State :=
  if linkIs s p .connected then sessionLost p (modLink p loseCarrier s) else s

/-- R112, R143. -/
def execDropCarrier (t : Nat) (p : PortNo) (s : State) : Host.Outcome State Fault Refusal := act t (takeDropCarrier p) s

/-- R112: the link goes ON-HOOK and its release is complete. -/
def completeRelease (p : PortNo) (s : State) : State :=
  releaseComplete p (modLink p (fun l => { l with state := .onHook, releaseTimer := none }) s)

/-- R112: DROP ON-HOOK. -/
def takeDropOnHook (p : PortNo) (s : State) : State := if linkIs s p .releasing then completeRelease p s else s

/-- R112. -/
def execDropOnHook (t : Nat) (p : PortNo) (s : State) : Host.Outcome State Fault Refusal := act t (takeDropOnHook p) s

/-- R112: the release timer expires. -/
def releaseExpiry (p : PortNo) (s : State) : State :=
  if linkIs s p .releasing ∧ due s.ports[p].link.releaseTimer s.now = true then completeRelease p s else s

/-- R112. -/
def execReleaseTimerExpiry (t : Nat) (p : PortNo) (s : State) : Host.Outcome State Fault Refusal := act t (releaseExpiry p) s

/-- R184: a discarded report counts nowhere and changes no link state. -/
def execReportDiscarded (t : Nat) (_p : PortNo) (_frame : List Byte) (s : State) : Host.Outcome State Fault Refusal :=
  act t id s

/-! ### Far signals in a session (R132, R134, R139-R143) -/

/-- R132: READY in CALLING. -/
def takeReady (p : PortNo) (rpm ioc : Nat) (capable : Bool) (s : State) : State :=
  match s.ports[p].session.job with
  | none => s
  | some j =>
    let s := modSession p (fun x => { x with timer := none, farRpm := some rpm, farIoc := some ioc, capable := capable }) s
    if ioc ≠ (picOf s j).ioc then endSession p .mismatchIoc 0 s
    else
      let s := if rpm ≠ (picOf s j).rpm then withdrawLive p true s else s
      if s.ports[p].session.resumed = false ∧ 1 ≤ j.caption.length ∧ capable = true then enterState p .caption s
      else enterPhasing p 1 s

/-- R138: a verdict is taken: the timer stops, and no DONE of an earlier TRAILER or QUERY starts it. R138 speaks of one that is
outstanding. Of a QUERY that still waits for room (R113) the spec is silent: the model keeps it, hands it ahead of the next band's lines,
and has its DONE start no timer either (log 14). -/
def stopVerdict (p : PortNo) (s : State) : State :=
  modPort p (fun q =>
    { q with
      link := calmLink q.link, session := { q.session with timer := none, wishes := q.session.wishes.map calmWish } }) s

/-- R140: AGAIN. -/
def againVerdict (p : PortNo) (s : State) : State :=
  let s := modSession p (fun x => { x with queries := 0, waitRun := 0, agains := x.agains + 1 }) s
  if againLimit ≤ s.ports[p].session.agains then endSession p .bandRejected 0 s
  else bandStart p (leaveLive p true s)

/-- R140: WAIT. -/
def waitVerdict (p : PortNo) (s : State) : State :=
  let s := modSession p (fun x => { x with waitRun := x.waitRun + 1 }) s
  if waitLimit < s.ports[p].session.waitRun then endSession p .farStalled 0 s
  else
    let s := enterState p .waiting (leaveLive p true (modSession p (fun x => { x with queries := 0 }) s))
    startTimer p .wait ((settings s p).waitTime * second) s

/-- R135: the picture's last band. -/
def lastBand (r : PictureRecord) (len : Nat) : Nat := ((if r.state = .cut then r.mark else r.lines) - 1) / len

/-- R139: the band has had its GOOD and is not repeated: the session closes, or goes on to the next band. -/
def nextBand (p : PortNo) (s : State) : State :=
  match s.ports[p].session.job with
  | none => s
  | some j =>
    if s.ports[p].session.band = lastBand (picOf s j) (bandLen s p) then closeSession p s
    else
      boundary p (bandStart p)
        (modSession p (fun x => { x with band := x.band + 1, agains := 0, bandCollisions := 0, staleResends := 0 }) s)

/-- R139: the expected token. -/
def goodVerdict (p : PortNo) (s : State) : State :=
  let s := if s.ports[p].session.live = .member then modPipe (reportDone p) s else s
  let s := modSession p (fun x => { x with queries := 0, waitRun := 0, delivered := max x.delivered (x.band + 1) }) s
  let x := s.ports[p].session
  if x.stale = true ∧ x.staleResends < staleLimit then
    bandStart p (leaveLive p true (modSession p (fun x => { x with staleResends := x.staleResends + 1 }) s))
  else if x.stale = true then
    nextBand p (modCounts p (fun c => { c with alterations := bump max16 c.alterations }) s)
  else nextBand p s

/-- R139: GOOD-A (`a`) or GOOD-B in AWAIT-VERDICT or WAITING. -/
def takeGood (p : PortNo) (a : Bool) (s : State) : State :=
  let s := stopVerdict p s
  if (s.ports[p].session.band % 2 = 0) = (a = true) then goodVerdict p s else againVerdict p (countNoise p s)

/-- R141: a talk collision. -/
def collide (p : PortNo) (s : State) : State :=
  let s := modLink p askFlush s
  let s := withdrawWait p (dropPins p s)
  let s := modSession p (fun x =>
    { x with
      wishes := [], bandCollisions := x.bandCollisions + 1
      counts := { x.counts with collisions := bump max8 x.counts.collisions } }) s
  if collisionLimit ≤ s.ports[p].session.bandCollisions then endSession p .lineNoise 0 s
  else startTimer p .quiet quietTime (enterState p .quiet (leaveLive p true s))

/-- R142, R143: HANG by state. -/
def takeHang (p : PortNo) (s : State) : State :=
  match s.ports[p].session.state with
  | .closing => endClose p false s
  | .parting => releaseParted p s
  | .idle | .seizing | .releasing | .slipWait => s
  | _ => endSession p .farHung 0 s

/-- R142: RECEIPT in CLOSING. -/
def takeReceipt (p : PortNo) (n : Nat) (s : State) : State :=
  endClose p true (modCounts p (fun c => { c with receipt := n, receiptPresent := true }) s)

/-- The states in which a verdict is taken (R138). -/
def awaitsVerdict (st : SessionState) : Bool := st = .awaitVerdict || st = .waiting

/-- R141, R143: a valid far signal other than HANG that the session does not expect. -/
def unexpected (p : PortNo) (s : State) : State :=
  match s.ports[p].session.state with
  | .sending => collide p s
  | .idle | .seizing | .releasing | .slipWait => s
  | _ => countNoise p s

/-- R143: a valid far signal is taken by the session of port `p`. -/
def takeSignal (p : PortNo) (sig : FarSignal) (s : State) : State :=
  let st := s.ports[p].session.state
  match sig with
  | .hang => takeHang p s
  | .ready rpm ioc capable => if st = .calling then takeReady p rpm ioc capable s else unexpected p s
  | .phased => if st = .phasing ∨ st = .awaitPhased then reachPhasing p s else unexpected p s
  | .goodA => if awaitsVerdict st then takeGood p true s else unexpected p s
  | .goodB => if awaitsVerdict st then takeGood p false s else unexpected p s
  | .again => if awaitsVerdict st then againVerdict p (stopVerdict p s) else unexpected p s
  | .wait => if awaitsVerdict st then waitVerdict p (stopVerdict p s) else unexpected p s
  | .receipt n => if st = .closing then takeReceipt p n s else unexpected p s

/-- R124: a HEARD whose conditions 2 and 3 give `sig`, taken while CONNECTED. -/
def judged (p : PortNo) (sig : Option FarSignal) (s : State) : State :=
  match sig with
  | some sig => service p (takeSignal p sig s)
  | none => countNoise p s

/-- R112, R124: a HEARD report of `duration` ms is judged. -/
def takeHeard (p : PortNo) (code : Byte) (duration : Nat) (data : List Byte) (s : State) : State :=
  if linkIs s p .connected then
    if (settings s p).minDuration ≤ duration then judged p (signalOf code data) s else countNoise p s
  else s

/-- R123, R124. -/
def execHeard (t : Nat) (p : PortNo) (code : Byte) (duration : BitVec 16) (data : List Byte) (s : State) :
    Host.Outcome State Fault Refusal :=
  act t (takeHeard p code duration.toNat data) s

/-- Log 9: a HEARD of sufficient length with this code and data. -/
def hearSignal (p : PortNo) (code : Byte) (data : List Byte) (s : State) : State :=
  if linkIs s p .connected then judged p (signalOf code data) s else s

/-- R132. -/
def execReady (t : Nat) (p : PortNo) (rpm : Byte) (ioc : BitVec 16) (capable : Bool) (s : State) :
    Host.Outcome State Fault Refusal :=
  act t (hearSignal p 1 ([rpm] ++ leBytes 2 ioc.toNat ++ [flagByte capable])) s

/-- R134. -/
def execPhased (t : Nat) (p : PortNo) (s : State) : Host.Outcome State Fault Refusal := act t (hearSignal p 2 []) s

/-- R139. -/
def execGoodA (t : Nat) (p : PortNo) (s : State) : Host.Outcome State Fault Refusal := act t (hearSignal p 3 []) s

/-- R139. -/
def execGoodB (t : Nat) (p : PortNo) (s : State) : Host.Outcome State Fault Refusal := act t (hearSignal p 4 []) s

/-- R140. -/
def execAgain (t : Nat) (p : PortNo) (s : State) : Host.Outcome State Fault Refusal := act t (hearSignal p 5 []) s

/-- R140. -/
def execWait (t : Nat) (p : PortNo) (s : State) : Host.Outcome State Fault Refusal := act t (hearSignal p 6 []) s

/-- R142. -/
def execReceipt (t : Nat) (p : PortNo) (number : BitVec 32) (s : State) : Host.Outcome State Fault Refusal :=
  act t (hearSignal p 7 (leBytes 4 number.toNat)) s

/-- R143. -/
def execHang (t : Nat) (p : PortNo) (s : State) : Host.Outcome State Fault Refusal := act t (hearSignal p 8 []) s

/-! ### Session timers (R131, R132, R134, R138, R140-R142) -/

/-- The session timer of this kind of port `p` is running and due. -/
def timerDue (s : State) (p : PortNo) (kind : TimerKind) : Bool :=
  match s.ports[p].session.timer with
  | some x => x.kind = kind && decide (x.expiry ≤ s.now)
  | none => false

/-- A session timer of this kind expires: it stops, and `f` is what follows. -/
def expire (kind : TimerKind) (f : PortNo → State → State) (p : PortNo) (s : State) : State :=
  if timerDue s p kind then service p (f p (modSession p (fun x => { x with timer := none }) s)) else s

/-- R131. -/
def execSeizeTimerExpiry (t : Nat) (p : PortNo) (s : State) : Host.Outcome State Fault Refusal :=
  act t (expire .seize (fun p => endSession p .lineFailed 0) p) s

/-- R132. -/
def execReadyTimerExpiry (t : Nat) (p : PortNo) (s : State) : Host.Outcome State Fault Refusal :=
  act t (expire .ready (fun p => endSession p .noAnswer 0) p) s

/-- R134: the PHASED timer of a round expires. -/
def phasedExpiry (p : PortNo) (s : State) : State :=
  if s.ports[p].session.round < roundLimit then enterPhasing p (s.ports[p].session.round + 1) s
  else endSession p .notPhased 0 s

/-- R134. -/
def execPhasedTimerExpiry (t : Nat) (p : PortNo) (s : State) : Host.Outcome State Fault Refusal :=
  act t (expire .phased phasedExpiry p) s

/-- R138: the verdict timer expires. -/
def verdictExpiry (p : PortNo) (s : State) : State :=
  if s.ports[p].session.queries < queryLimit then
    wish p (.query true) (modSession p (fun x =>
      { x with queries := x.queries + 1, counts := { x.counts with queries := bump max8 x.counts.queries } }) s)
  else endSession p .noVerdict 0 s

/-- R138. -/
def execVerdictTimerExpiry (t : Nat) (p : PortNo) (s : State) : Host.Outcome State Fault Refusal :=
  act t (expire .verdict verdictExpiry p) s

/-- R140: the WAIT timer expires. -/
def waitExpiry (p : PortNo) (s : State) : State := verdictExpiry p (enterState p .awaitVerdict s)

/-- R140. -/
def execWaitTimerExpiry (t : Nat) (p : PortNo) (s : State) : Host.Outcome State Fault Refusal := act t (expire .wait waitExpiry p) s

/-- R141. -/
def execQuietTimerExpiry (t : Nat) (p : PortNo) (s : State) : Host.Outcome State Fault Refusal :=
  act t (expire .quiet bandStart p) s

/-- R142. -/
def execReceiptTimerExpiry (t : Nat) (p : PortNo) (s : State) : Host.Outcome State Fault Refusal :=
  act t (expire .receipt (fun p => endClose p false) p) s

end Sys2Proof.Machine
end

