-- ==== Sys2Proof/Machine/Dispatch.lean ====
section
/-! DEFINITION. Every command and its meaning: one arm per constructor of Instr. -/

namespace Sys2Proof.Machine

/-- The effect of a command on everything but the queue. -/
def exec (i : Instr) (s : State) : Host.Outcome State Fault Refusal :=
  match i with
  | .powerOn t => Sys2Proof.Machine.execPowerOn t s
  | .warmReset t made => Sys2Proof.Machine.execWarmReset t made s
  | .resetRelease t straps coverOpen homeClosed => Sys2Proof.Machine.execResetRelease t straps coverOpen homeClosed s
  | .deskAccess t a => Sys2Proof.Machine.execDeskAccess t a s
  | .arbiterGrant t => Sys2Proof.Machine.execArbiterGrant t s
  | .deskWrite t => Sys2Proof.Machine.execDeskWrite t s
  | .postWordWrite t => Sys2Proof.Machine.execPostWordWrite t s
  | .markWordWrite t => Sys2Proof.Machine.execMarkWordWrite t s
  | .loadWordWrite t => Sys2Proof.Machine.execLoadWordWrite t s
  | .clearWordWrite t => Sys2Proof.Machine.execClearWordWrite t s
  | .checkUpkeepUnitEnd t composed => Sys2Proof.Machine.execCheckUpkeepUnitEnd t composed s
  | .scanLineWriteEnd t => Sys2Proof.Machine.execScanLineWriteEnd t s
  | .lineFetchEnd t => Sys2Proof.Machine.execLineFetchEnd t s
  | .trailerFlagUnitEnd t => Sys2Proof.Machine.execTrailerFlagUnitEnd t s
  | .intakeReaderTake t => Sys2Proof.Machine.execIntakeReaderTake t s
  | .jobRecordReadEnd t => Sys2Proof.Machine.execJobRecordReadEnd t s
  | .scan t => Sys2Proof.Machine.execScan t s
  | .send t => Sys2Proof.Machine.execSend t s
  | .abortJob t => Sys2Proof.Machine.execAbortJob t s
  | .abortPicture t => Sys2Proof.Machine.execAbortPicture t s
  | .releasePicture t => Sys2Proof.Machine.execReleasePicture t s
  | .holdPort t => Sys2Proof.Machine.execHoldPort t s
  | .resumePort t => Sys2Proof.Machine.execResumePort t s
  | .resultWordWriteEnd t => Sys2Proof.Machine.execResultWordWriteEnd t s
  | .tachPulse t => Sys2Proof.Machine.execTachPulse t s
  | .indexPulse t => Sys2Proof.Machine.execIndexPulse t s
  | .conversionRequest t => Sys2Proof.Machine.execConversionRequest t s
  | .codeReady t code => Sys2Proof.Machine.execCodeReady t code s
  | .stallTimerExpiry t => Sys2Proof.Machine.execStallTimerExpiry t s
  | .spinUpTimerExpiry t => Sys2Proof.Machine.execSpinUpTimerExpiry t s
  | .slipTimerExpiry t => Sys2Proof.Machine.execSlipTimerExpiry t s
  | .idleSpinTimerExpiry t => Sys2Proof.Machine.execIdleSpinTimerExpiry t s
  | .coastTimerExpiry t => Sys2Proof.Machine.execCoastTimerExpiry t s
  | .coverOpen t => Sys2Proof.Machine.execCoverOpen t s
  | .coverClose t => Sys2Proof.Machine.execCoverClose t s
  | .settleTimerExpiry t => Sys2Proof.Machine.execSettleTimerExpiry t s
  | .homingStep t => Sys2Proof.Machine.execHomingStep t s
  | .homeSwitchClose t => Sys2Proof.Machine.execHomeSwitchClose t s
  | .homingLimitExpiry t => Sys2Proof.Machine.execHomingLimitExpiry t s
  | .carriageStep t => Sys2Proof.Machine.execCarriageStep t s
  | .startLimitTimerExpiry t => Sys2Proof.Machine.execStartLimitTimerExpiry t s
  | .frameTransferEnd t p => Sys2Proof.Machine.execFrameTransferEnd t p s
  | .up t p => Sys2Proof.Machine.execUp t p s
  | .fail t p cause => Sys2Proof.Machine.execFail t p cause s
  | .doneItem t p => Sys2Proof.Machine.execDoneItem t p s
  | .doneFlush t p => Sys2Proof.Machine.execDoneFlush t p s
  | .slack t p => Sys2Proof.Machine.execSlack t p s
  | .heard t p code duration data => Sys2Proof.Machine.execHeard t p code duration data s
  | .ready t p rpm ioc capable => Sys2Proof.Machine.execReady t p rpm ioc capable s
  | .phased t p => Sys2Proof.Machine.execPhased t p s
  | .goodA t p => Sys2Proof.Machine.execGoodA t p s
  | .goodB t p => Sys2Proof.Machine.execGoodB t p s
  | .again t p => Sys2Proof.Machine.execAgain t p s
  | .wait t p => Sys2Proof.Machine.execWait t p s
  | .receipt t p number => Sys2Proof.Machine.execReceipt t p number s
  | .hang t p => Sys2Proof.Machine.execHang t p s
  | .dropCarrier t p => Sys2Proof.Machine.execDropCarrier t p s
  | .dropOnHook t p => Sys2Proof.Machine.execDropOnHook t p s
  | .reportDiscarded t p frame => Sys2Proof.Machine.execReportDiscarded t p frame s
  | .releaseTimerExpiry t p => Sys2Proof.Machine.execReleaseTimerExpiry t p s
  | .seizeTimerExpiry t p => Sys2Proof.Machine.execSeizeTimerExpiry t p s
  | .readyTimerExpiry t p => Sys2Proof.Machine.execReadyTimerExpiry t p s
  | .phasedTimerExpiry t p => Sys2Proof.Machine.execPhasedTimerExpiry t p s
  | .verdictTimerExpiry t p => Sys2Proof.Machine.execVerdictTimerExpiry t p s
  | .waitTimerExpiry t p => Sys2Proof.Machine.execWaitTimerExpiry t p s
  | .quietTimerExpiry t p => Sys2Proof.Machine.execQuietTimerExpiry t p s
  | .receiptTimerExpiry t p => Sys2Proof.Machine.execReceiptTimerExpiry t p s
  | .slipRecordWriteEnd t => Sys2Proof.Machine.execSlipRecordWriteEnd t s
  | .setupPartReadEnd t => Sys2Proof.Machine.execSetupPartReadEnd t s
  | .loadResultWriteEnd t => Sys2Proof.Machine.execLoadResultWriteEnd t s
  | .statusRecordWriteEnd t => Sys2Proof.Machine.execStatusRecordWriteEnd t s
  | .deskClockSecond t => Sys2Proof.Machine.execDeskClockSecond t s
  | .deskRead t => Sys2Proof.Machine.execDeskRead t s
  | .homeSwitchOpen t => Sys2Proof.Machine.execHomeSwitchOpen t s

end Sys2Proof.Machine
end

