-- ==== Sys2Proof/Safety.lean ====
section
/-! DEFINITION. What runs of the block are about: the time of a command, runs in which no timer goes by undelivered, what
bytes stand in memory, the requests of the arbiter, and the invariants that every step keeps. -/

namespace Sys2Proof.Machine

/-! ### Time -/

/-- The value of the 1 µs timebase at which a command is taken. -/
def timeOf : Instr → Nat
  | .powerOn t | .warmReset t _ | .resetRelease t _ _ _ | .deskAccess t _ | .arbiterGrant t | .deskWrite t | .postWordWrite t
  | .markWordWrite t | .loadWordWrite t | .clearWordWrite t | .checkUpkeepUnitEnd t _ | .scanLineWriteEnd t | .lineFetchEnd t
  | .trailerFlagUnitEnd t | .intakeReaderTake t | .jobRecordReadEnd t | .scan t | .send t | .abortJob t | .abortPicture t
  | .releasePicture t | .holdPort t | .resumePort t | .resultWordWriteEnd t | .tachPulse t | .indexPulse t
  | .conversionRequest t | .codeReady t _ | .stallTimerExpiry t | .spinUpTimerExpiry t | .slipTimerExpiry t
  | .idleSpinTimerExpiry t | .coastTimerExpiry t | .coverOpen t | .coverClose t | .settleTimerExpiry t | .homingStep t
  | .homeSwitchClose t | .homingLimitExpiry t | .carriageStep t | .startLimitTimerExpiry t | .frameTransferEnd t _ | .up t _
  | .fail t _ _ | .doneItem t _ | .doneFlush t _ | .slack t _ | .heard t _ _ _ _ | .ready t _ _ _ _ | .phased t _ | .goodA t _
  | .goodB t _ | .again t _ | .wait t _ | .receipt t _ _ | .hang t _ | .dropCarrier t _ | .dropOnHook t _
  | .reportDiscarded t _ _ | .releaseTimerExpiry t _ | .seizeTimerExpiry t _ | .readyTimerExpiry t _ | .phasedTimerExpiry t _
  | .verdictTimerExpiry t _ | .waitTimerExpiry t _ | .quietTimerExpiry t _ | .receiptTimerExpiry t _ | .slipRecordWriteEnd t
  | .setupPartReadEnd t | .loadResultWriteEnd t | .statusRecordWriteEnd t | .deskClockSecond t | .deskRead t
  | .homeSwitchOpen t => t

/-- The expiry times of the timers of one port. -/
def portTimers (q : Port) : List Nat := (q.session.timer.map (·.expiry)).toList ++ q.link.releaseTimer.toList

/-- The expiry times of the timers that run. -/
def runningTimers (s : State) : List Nat :=
  s.drum.stall.toList ++ s.drum.spinUp.toList ++ s.drum.slip.toList ++ s.drum.idleSpin.toList ++ s.drum.coast.toList ++
  s.drum.settle.toList ++ (match s.pipe.startLimit with | .running e => [e] | _ => []) ++ s.ports.toList.flatMap portTimers

/-- Time has not gone past a running timer: what holds while every expiry is delivered when it falls due (log 1). -/
def OnTime (s : State) : Prop := ∀ e ∈ runningTimers s, s.now ≤ e

/-! ### Memory -/

/-- Memory `m'` holds `bytes` at the successive addresses from `a` and is `m` everywhere else. -/
def StoredAt (m m' : Memory) (a : Nat) (bytes : List Byte) : Prop :=
  (∀ i (h : i < bytes.length), readByte m' (addr26 (a + i)) = bytes[i]) ∧
  ∀ x, (∀ i < bytes.length, x ≠ addr26 (a + i)) → readByte m' x = readByte m x

/-! ### The requests of the arbiter (R14) -/

/-- The requests that stand at the arbiter. -/
def Standing (s : State) : Requester → Prop
  | .scanWriter => anyFull s.pipe = true
  | .desk => s.desk.access.isSome
  | .lineFetch p => presentable s p = true
  | .intakeReader => (intakeUnit s).isSome
  | .setupLoader => (loaderUnit s).isSome
  | .slipWriter => (slipUnit s).isSome
  | .trailerWriter => s.trailers ≠ []
  | .statusWriter => (statusPick s).isSome

/-- The rank of a request: its level, then its place within the level. Lower is granted first. -/
def rank (s : State) : Requester → Nat × Nat
  | .scanWriter => (if bothFull s.pipe then 1 else 3, 0)
  | .desk => (2, 0)
  | .lineFetch p => (4, p.val)
  | .intakeReader => (5, 0)
  | .setupLoader => (5, 1)
  | .slipWriter => (6, 0)
  | .trailerWriter => (6, 1)
  | .statusWriter => (7, 0)

/-! ### Invariants -/

/-- Memory is in canonical form. -/
def MemoryInv (s : State) : Prop := Memory.wf s.mem = true

/-- R50, R56-R63: what the drum record always is. -/
def drumOk (d : Drum) : Prop :=
  (looping d.state = false → d.duty = 0) ∧
  (d.cause ≠ .noFault ↔ d.state = .fault) ∧
  (d.stall.isSome ↔ looping d.state = true) ∧
  (d.spinUp.isSome ↔ d.state = .spinUp) ∧
  (d.slip.isSome ↔ d.state = .slipped) ∧
  (d.coast.isSome ↔ d.state = .stopping) ∧
  (d.idleSpin.isSome ↔ d.state = .locked ∧ d.scanHeld = false) ∧
  (d.goodRun ≤ 3 ∧ (d.goodRun = 3 ↔ d.state = .locked)) ∧
  (d.settle.isSome ↔ d.lamp = .warming) ∧
  (integralMin ≤ d.integral ∧ d.integral ≤ integralMax)

/-- R23-R27: what a picture record always is. -/
def pictureOk (r : PictureRecord) : Prop :=
  r.mark ≤ r.lines ∧
  (r.state = .empty → r.mark = 0) ∧
  (r.state = .scanning → r.mark < r.lines) ∧
  (r.state = .complete → r.mark = r.lines) ∧
  (r.state = .cut → r.mark < r.lines) ∧
  (r.state = .cut ↔ r.cause ≠ .noCause)

/-- R23, R24: every picture record is in order, and at most one picture is SCANNING. -/
def PictureInv (s : State) : Prop :=
  (∀ k : Fin 16, pictureOk s.pics[k]) ∧
  ∀ k l : Fin 16, s.pics[k].state = .scanning → s.pics[l].state = .scanning → k = l

/-- R50, R70: the pipeline and the drum serve a scan just while a picture is SCANNING, and it is the picture they name. -/
def ScanInv (s : State) : Prop :=
  (∀ k : Fin 16, s.pics[k].state = .scanning ↔ s.pipe.state ≠ .idle ∧ k = s.pipe.pic) ∧
  (s.drum.scanHeld = true ↔ s.pipe.state ≠ .idle)

/-- R113: at most 2 units are held on a link, a TEXT counts both, and only the frames of the link itself wait behind a transfer. -/
def linkOk (l : Link) : Prop := unitsHeld l ≤ 2 ∧ ∀ f ∈ l.frames, itemOf f = none

/-- R113: for every port. -/
def LinkInv (s : State) : Prop := ∀ p : PortNo, linkOk s.ports[p].link

/-- R98: a port's queue holds at most 8 jobs, highest priority first. -/
def queueOk (q : List Job) : Prop := q.length ≤ queueLimit ∧ q.Pairwise fun a b => b.prio ≤ a.prio

/-- R98: for every port. -/
def QueueInv (s : State) : Prop := ∀ p : PortNo, queueOk s.ports[p].queue

/-- R154: the Composer keeps one mark for each slot of the ring, so it never holds more FILLED slots than the ring has. -/
def RingInv (s : State) : Prop := s.composer.filled.length = s.cfg.ringCapacity

/-- R168: the drum and scan settings are in their ranges. -/
def drumSettingsOk (c : DrumSettings) : Prop :=
  c.dBase60 ≤ 1023 ∧ c.dBase90 ≤ 1023 ∧ c.dBase120 ≤ 1023 ∧ c.kp ≤ 255 ∧ c.ki ≤ 255 ∧ (20 ≤ c.lockPpm ∧ c.lockPpm ≤ 500) ∧
  c.idleSpin ≤ 600 ∧ (5 ≤ c.settleTenths ∧ c.settleTenths ≤ 80) ∧ (64 ≤ c.spanFloor ∧ c.spanFloor ≤ 2048) ∧
  (1 ≤ c.holdLimit ∧ c.holdLimit ≤ 8) ∧ c.curve.length = 17 ∧ ∀ x ∈ c.curve, x ≤ 255

/-- R168: the settings of a port are in their ranges. -/
def portSettingsOk (c : PortSettings) : Prop :=
  (c.am = false → (1000 ≤ c.white ∧ c.white ≤ 3000) ∧ 1000 ≤ c.black ∧ c.black ≤ 3000) ∧
  (c.am = true → c.white ≤ 1023 ∧ c.black ≤ 1023) ∧
  (c.bandLength = 16 ∨ c.bandLength = 32 ∨ c.bandLength = 64) ∧
  (10 ≤ c.phasingLines ∧ c.phasingLines ≤ 60) ∧ (1 ≤ c.verdictTime ∧ c.verdictTime ≤ 10) ∧
  (5 ≤ c.waitTime ∧ c.waitTime ≤ 120) ∧ (10 ≤ c.minDuration ∧ c.minDuration ≤ 200) ∧ c.sync ≤ 15 ∧ c.pad ≤ 15

/-- The drum, scan and port settings of a setup are in their ranges. -/
def settingsOk (c : Setup) : Prop := drumSettingsOk c.drum ∧ ∀ p : PortNo, portSettingsOk c.ports[p]

/-- R55, R87, R125, R128, R168: the settings in force, and those a load has read so far, are in their ranges. -/
def SettingsInv (s : State) : Prop := settingsOk s.cfg ∧ settingsOk s.loader.block

end Sys2Proof.Machine
end

