-- ==== Sys2Proof/Certificates/Slice0/Obligations.lean ====
section
/-! DEFINITION. The statements for the provers. `advance t s` is `s` with the timebase moved to the command's time; `noteChanges a b` is
`b` with the Status Writer's changed flags raised for the records that differ from `a` (ChangedRecordsAreFlagged says which). -/

open Sys2Proof Sys2Proof.Machine

/-! ### The queue and every command -/

/-- A step takes the command at the front of the queue, which runs on the state with the queue's rest; on an empty queue the block
idles (log 3). -/
def Obligations.StepTakesTheFrontCommand : Prop :=
  (∀ (c : Instr) (rest : List Instr) (s : State),
     step { s with pending := c :: rest } = exec c { s with pending := rest }) ∧
  (∀ s : State, s.pending = [] → step s = .next s)

/-- Every command answers a next state, leaves the queue alone, and moves the timebase to its time and never back (log 1, log 2).
While RESET is low a command does nothing but let time pass, unless it is a reset, a desk access that is then held, or a second of the
desk clock (R18, R111, R177; log 22). -/
def Obligations.EveryCommandAnswersNext : Prop :=
  (∀ (c : Instr) (s : State), ∃ s', exec c s = .next s' ∧ s'.pending = s.pending ∧ s'.now = max s.now (timeOf c)) ∧
  (∀ (c : Instr) (s : State), s.inReset = true → (∀ t, c ≠ .powerOn t) → (∀ t k o h, c ≠ .resetRelease t k o h) →
     (∀ t a, c ≠ .deskAccess t a) → (∀ t, c ≠ .deskClockSecond t) → exec c s = .next (advance (timeOf c) s))

/-- R23, R173: a report sets its record's changed flag: after a command a record is flagged just when it was before, its contents have
changed, or it is the record of the picture whose reference a SEND job takes, which a SHORT slip composed at once may give back. The
commands left out are the resets (R177), the grant, which clears the flag of the record it writes, and the end of a setup part read,
which may flag the whole page (R174). Which changes count as reports is log 16. R175: the attention output is on while some notice is
set and enabled, and the lowest such notice is the pending one. R62: the LAMP output is on in WARMING and READY. -/
def Obligations.ChangedRecordsAreFlagged : Prop :=
  (∀ (c : Instr) (s s' : State), s.inReset = false → exec c s = .next s' → (∀ t, c ≠ .powerOn t) → (∀ t n, c ≠ .warmReset t n) →
     (∀ t, c ≠ .arbiterGrant t) → (∀ t, c ≠ .setupPartReadEnd t) →
     -- the picture of a SEND job that this command takes: its reference is counted, and a slip composed at once may count it back
     let sentPicture (i : Fin 27) : Prop := ∃ t addr h, (c = .send t ∨ c = .jobRecordReadEnd t) ∧ s.unit = some (.jobRead addr) ∧
       let x := finishRead addr (advance t s)
       readyHand x = some h ∧ refusalOf x h.record = none ∧ byteAt h.record 8 = 2 ∧ i.val = 4 + (recSlot h.record).val
     ∀ i : Fin 27, s'.status.changed[i] = true ↔
       s.status.changed[i] = true ∨ comparedBytes s i.val ≠ comparedBytes s' i.val ∨ sentPicture i) ∧
  (∀ n : Notices,
     let pending (c : Fin 9) : Prop := n.flags[c] = true ∧ n.enables[c] = true
     (attention n = true ↔ ∃ c, pending c) ∧ (lowestPending n = none ↔ attention n = false) ∧
     ∀ c : Fin 9, lowestPending n = some c.val ↔ pending c ∧ ∀ d < c, ¬pending d) ∧
  ∀ d : Drum, lampOn d = true ↔ d.lamp = .warming ∨ d.lamp = .ready

/-! ### Resets -/

/-- Power-on sets every block to its reset state; memory stands as it was (log 4), and the reset has yet to end. A warm reset stops
the unit in progress after the accesses made, in the order of log 34, the one under way with them, and memory keeps what they wrote, a
result word, a load result and a FILLED mark too (log 6); it keeps the job id counter, the next serial, the desk clock and the held
desk access (R18, R94, R166, R177). A slip record write all of whose 16 accesses are made is at its end, and its serial is used (R160,
log 6). The end of a reset takes the straps from their pins (R2), after a warm reset too and the cover and the home switch with them,
which is log 23, and nothing else changes: a desk access held through the reset is a request again (R18). The setup window then stands
at 3F80000h + k × 10000h and is 64 KiB long. -/
def Obligations.ResetsBeginAndEnd : Prop :=
  (∀ (t : Nat) (s : State), exec (.powerOn t) s =
     .next { State.reset with pending := s.pending, now := max s.now t, inReset := true, mem := s.mem }) ∧
  (∀ (t made : Nat) (s : State), s.inReset = false → exec (.warmReset t made) s =
     .next { State.reset with
       pending := s.pending, now := max s.now t, inReset := true, resetCause := .pin, strap := s.strap, desk := s.desk
       mem := applyAccesses s.mem (match s.unit with
         | some u => (unitAccesses s u).take (max 1 made)
         | none => [])
       intake := { jobId := s.intake.jobId }, clock := (advance t s).clock
       composer := { nextSerial :=
         match s.unit, s.composer.nextSerial with
         | some (.slipWrite _ _ _), some n =>
           if made < 16 then some n else if n = 4294967295 then none else some (n + 1)
         | _, serial => serial } }) ∧
  (∀ (t : Nat) (k : BitVec 3) (o h : Bool) (s : State), s.inReset = true →
     exec (.resetRelease t k o h) s =
       .next { advance t s with inReset := false, strap := k, drum := { s.drum with coverOpen := o, homeClosed := h } } ∧
     ∀ a, inSetupWindow k a = true ↔ 0x3F80000 + k.toNat * 0x10000 ≤ a ∧ a < 0x3F80000 + k.toNat * 0x10000 + 0x10000)

/-- What power-on leaves in each block (R1, R12, R14, R19, R35, R36, R49, R62, R69, R88, R110, R126, R153, R166, R177), with the
settings that stand before the first load (R55, R87, R125, R128). That no port is enabled before it is log 21. -/
def Obligations.ResetLeavesTheStatedValues : Prop :=
  let s := State.reset
  -- Memory Path (R1, R12, R18)
  ((∀ i : Fin 8, s.cfg.windows[i] = { kind := .off, base := 0, size := 0 }) ∧
    s.drops = { trailer := 0, collision := 0, status := 0 } ∧ s.unit = none ∧ nextRequest s = none) ∧
  -- Picture Store (R35)
  ((∀ i : Fin 16, s.cfg.slots[i] = { base := 0, size := 0 }) ∧
    ∀ k : Fin 16, s.pics[k] = {
      state := .empty, tag := 0, ioc := 0, samples := 0, picSamples := 0, stride := 0, lines := 0, mark := 0, rpm := 0
      cause := .noCause, refs := 0, collisionDrops := 0, alteredWrites := 0, heldLines := 0, checkErrors := 0 }) ∧
  -- Line Store (R49)
  ((∀ i : Fin 16, s.store.sets[i].way0.state = .invalid ∧ s.store.sets[i].way1.state = .invalid ∧
      pinCount s.store.sets[i].way0 = 0 ∧ pinCount s.store.sets[i].way1 = 0 ∧ s.store.sets[i].lru = false) ∧
    s.store.latch = none ∧ s.store.heldFailure = none ∧ s.store.checkErrors = 0 ∧ s.trailers = []) ∧
  -- Drum Drive (R69)
  (s.drum.state = .stopped ∧ s.drum.cause = .noFault ∧ s.drum.target = none ∧ s.drum.scanHeld = false ∧ s.drum.duty = 0 ∧
    s.drum.integral = 0 ∧ s.drum.goodRun = 0 ∧ s.drum.tMeas = 0 ∧ s.drum.lastTach = none ∧ s.drum.lastIndex = none) ∧
  (runningTimers s = [] ∧ s.drum.lamp = .off ∧ lampOn s.drum = false ∧ s.drum.carriage = .unknown ∧ s.drum.fraction = 0 ∧ s.drum.advance = 0 ∧
    s.drum.steps = []) ∧
  -- Scan Pipeline (R88)
  (s.pipe.state = .idle ∧ s.pipe.scanId = none ∧ s.pipe.next = 0 ∧ s.pipe.held = none ∧ s.pipe.faultRun = 0 ∧
    s.pipe.rev = none ∧ s.pipe.request = none ∧ s.pipe.hold = none ∧ s.pipe.startLimit = .notStarted ∧ s.pipe.lampReady = false ∧
    s.pipe.homed = false ∧ (∀ p : PortNo, s.pipe.candidates[p] = none ∧ s.pipe.bandLens[p] = none) ∧
    ∀ b : Fin 2, s.pipe.buffers[b] = none) ∧
  -- Job Intake and Port Schedulers (R94, R110)
  (s.intake = { queue := [], hand := none, jobId := 0 } ∧
    ∀ p : PortNo, s.ports[p].queue = [] ∧ s.ports[p].active = none ∧ s.ports[p].contexts = [] ∧ s.ports[p].hold = false ∧
      s.ports[p].preempt = false) ∧
  -- Coupler Link and sessions (R126, R153)
  (∀ p : PortNo, s.ports[p].link.state = .onHook ∧ s.ports[p].link.outstanding = [] ∧ s.ports[p].link.flushing = false ∧
    s.ports[p].link.transfer = none ∧ s.ports[p].bandCheck = 0 ∧ s.ports[p].lineTimes = [] ∧ s.ports[p].wait = none ∧
    s.ports[p].session = {}) ∧
  -- Receipt Slips (R164, R166)
  s.composer = { pending := [], index := 0, filled := [], nextSerial := some 0, openJobs := 0, writer := .idle } ∧
  -- Setup, Status and Notices (R177)
  (s.loader.phase = .idle ∧ s.adopted = false ∧ s.cfg.jobSlots = 0 ∧ s.cfg.ringCapacity = 0 ∧
    s.notice = { flags := 0, enables := 0 } ∧ attention s.notice = false ∧ lowestPending s.notice = none) ∧
  -- the settings before the first load (R55, R87, R125, R128, R177); that no port is enabled is log 21
  (s.cfg.drum = {
      dBase60 := 0, dBase90 := 0, dBase120 := 0, kp := 0, ki := 0, lockPpm := 100, idleSpin := 60, settleTenths := 20
      spanFloor := 256, holdLimit := 2, curve := (List.range 17).map fun k => 255 - 16 * k } ∧
    ∀ p : PortNo, s.cfg.ports[p] = {
      enabled := false, am := false, white := 1500, black := 2300, bandLength := 32, phasingLines := 20, verdictTime := 3
      waitTime := 30, minDuration := 40, crc := false, sync := 0, pad := 0, preempt := false }) ∧
  ((∀ i : Fin 27, s.status.changed[i] = false ∧ s.status.rewrites[i] = 0) ∧ s.loadResult = [0, 0, 0, 0] ∧
    s.resetCause = .power ∧ s.clock = { seconds := 0, micros := 0 })

/-- R3: a desk access is held from its arrival; the desk holds at most one, an access that comes while one is held is no event (log
2), and one that comes while RESET is low is held as well (log 22). R3, R5, R10, R12: the desk's request granted: a forwarded access
or a check upkeep unit starts and the desk stays held; a dropped write ends at once with no memory access, and its counter gains 1; a
collision counts in the picture too and sets DROP. -/
def Obligations.DeskAccessesAreHeldAndGranted : Prop :=
  (∀ (t : Nat) (x : DeskAccess) (s : State),
     (s.desk.access = none → exec (.deskAccess t x) s = .next { advance t s with desk := { s.desk with access := some x } }) ∧
     ∀ y, s.desk.access = some y → exec (.deskAccess t x) s = .next (advance t s)) ∧
  (∀ (t : Nat) (s : State) (x : DeskAccess), s.inReset = false → s.unit = none → nextRequest s = some .desk → s.desk.access = some x →
     let a := advance t s
     let released := { s.desk with access := none }
     (∀ form, classify s x = .unit form →
       exec (.arbiterGrant t) s = .next (noteChanges a { a with unit := some (.desk x form) })) ∧
     (classify s x = .trailerDrop →
       exec (.arbiterGrant t) s = .next (noteChanges a
         { a with desk := released, drops := { s.drops with trailer := min 4294967295 (s.drops.trailer + 1) } })) ∧
     (∀ k : Fin 16, classify s x = .collisionDrop k →
       exec (.arbiterGrant t) s = .next (noteChanges a
         { a with
           desk := released, drops := { s.drops with collision := min 4294967295 (s.drops.collision + 1) }
           pics := s.pics.set k { s.pics[k] with collisionDrops := min 65535 (s.pics[k].collisionDrops + 1) }
           notice := { s.notice with flags := s.notice.flags ||| BitVec.twoPow 9 7 } })) ∧
     (classify s x = .statusDrop →
       exec (.arbiterGrant t) s = .next (noteChanges a
         { a with desk := released, drops := { s.drops with status := min 4294967295 (s.drops.status + 1) } })))

/-! ### Grants and the classification of desk accesses -/

/-- R14, R15, R16: the request granted stands, and ranks before every other that stands, by level and then by place within the level;
where none is granted none stands. R14: a request waits while a unit is in progress, and an idle arbiter with no request grants
nothing. -/
def Obligations.GrantGoesToTheHighestLevel : Prop :=
  (∀ s : State,
     (∀ r, nextRequest s = some r → Standing s r ∧ ∀ r', Standing s r' → r' ≠ r →
       (rank s r).1 < (rank s r').1 ∨ (rank s r).1 = (rank s r').1 ∧ (rank s r).2 < (rank s r').2) ∧
     (nextRequest s = none → ∀ r, ¬Standing s r)) ∧
  (∀ (t : Nat) (s : State), s.unit.isSome ∨ nextRequest s = none → exec (.arbiterGrant t) s = .next (advance t s))

/-- R13, R17, R82, R91, R159, R181: the unit each of the part's own agents is granted, and nothing else changes. The line address of a
scan line write is the slot's base plus the line times the stride of the entry's own picture (log 33). R173, R183: the grant of a
status record write: it is for the lowest-numbered flagged record, whose flag is cleared and whose rewrite count gains 1; the unit
carries the contents as they stand, and the count mod 256. The bytes no rule states are free values (log 18). The slip carries the
serial as it stands at the grant (log 29). R68, R109, R181, R183: last, the layout of a slip, of the status page and of each status
record, where a two-byte or four-byte field has its low byte first. A one-byte flag field to which R183 gives no codes is 0 clear and
1 set, which is the model's choice (log 45). -/
def Obligations.GrantStartsTheUnitAskedFor : Prop :=
  (∀ (t : Nat) (s : State), s.inReset = false → s.unit = none →
     let granted (u : BusUnit) : Prop :=
       exec (.arbiterGrant t) s = .next (noteChanges (advance t s) { advance t s with unit := some u })
     (∀ h, nextRequest s = some .intakeReader → s.intake.hand = some h →
       (h.phase = .reading → granted (.jobRead h.addr)) ∧
       (∀ c rest, h.phase = .caption → h.todo = c :: rest → granted (.jobRead c.slotAddr)) ∧
       (h.phase = .answering → granted (.resultWrite (h.addr + 4) h.result))) ∧
     (nextRequest s = some .setupLoader →
       (∀ part, s.loader.phase = .reading part → granted (.setupPart part)) ∧
       (∀ w, s.loader.phase = .answering w → granted (.loadResult w))) ∧
     (∀ x rest n b, nextRequest s = some .slipWriter → s.composer.pending = x :: rest → s.composer.nextSerial = some n →
       slipsBase s = some b →
       granted (.slipWrite s.composer.index (b + 64 * s.composer.index) (slipBytes n x))) ∧
     (∀ f rest, nextRequest s = some .trailerWriter → s.trailers = f :: rest → granted (.trailerFlag f)) ∧
     (∀ b e, nextRequest s = some .scanWriter →
       (b = if bothFull s.pipe then s.pipe.older else if s.pipe.buffers[0].isSome then 0 else 1) → s.pipe.buffers[b] = some e →
       granted (.scanLine b (s.cfg.slots[e.pic].base + e.line * (4 * ceilDiv e.bytes.length 4 + 4))))) ∧
  (∀ (t : Nat) (s : State) (i : Fin 27) (b : Nat), s.inReset = false → s.unit = none → nextRequest s = some .statusWriter →
     statusBase s = some b → s.status.changed[i] = true → (∀ j : Fin 27, j < i → s.status.changed[j] = false) →
     let a := advance t s
     let n := min (2 ^ 48 - 1) (s.status.rewrites[i] + 1)
     exec (.arbiterGrant t) s = .next (noteChanges a
       { a with
         status := { changed := s.status.changed.set i false, rewrites := s.status.rewrites.set i n }
         unit := some (.statusWrite i (b + areaOffset i.val)
           (recordBytes s (fun o => Config.freeStatusByte i.val o n) i.val) (BitVec.ofNat 8 (n % 256))) })) ∧
  (let b (n : Nat) : Byte := BitVec.ofNat 8 n
   let w2 (n : Nat) : List Byte := [b n, b (n / 256)]
   let w4 (n : Nat) : List Byte := [b n, b (n / 256), b (n / 65536), b (n / 16777216)]
   let flag (f : Bool) : Byte := if f then 1 else 0
   let zeros (n : Nat) : List Byte := List.replicate n 0
   -- a slip
   (∀ (serial : Nat) (x : Slip), x.dest.length = 8 →
     let c := x.counts
     let s1 (n : Nat) : List Byte := [b (min n 255)]
     let s2 (n : Nat) : List Byte := w2 (min n 65535)
     let bit (f : Bool) (n : Nat) : Nat := if f then n else 0
     let outcome := match x.outcome with
       | .delivered => 1 | .deliveredNoReceipt => 2 | .short => 3 | .aborted => 4 | .abortedUnsent => 5 | .lineFailed => 6
       | .noAnswer => 7 | .mismatchIoc => 8 | .notPhased => 9 | .noVerdict => 10 | .farStalled => 11 | .bandRejected => 12
       | .lineNoise => 13 | .farHung => 14 | .carrierLost => 15
     slipBytes serial x =
       w4 1 ++ w4 serial ++ s2 x.jobId ++ [b x.port.val, b x.pic.val] ++ w4 x.tag.toNat ++ x.dest ++
       [b outcome, b x.detail, b x.prio,
         b (bit c.receiptPresent 1 + bit c.startedLive 2 + bit c.leftLive 4 + bit x.bumped 8 + bit c.captionSent 16)] ++
       w4 c.startTime.toNat ++ w4 c.endTime.toNat ++ s2 x.planned ++ s2 x.deliveredLines ++ s2 c.firstSent ++ s2 c.repeated ++
       s2 c.standby ++ s2 c.slack ++ s1 c.captionBytes ++ s1 x.farRpm ++ s2 x.farIoc ++ w4 c.receipt ++ s1 c.preemptions ++
       s1 c.collisions ++ s1 c.queries ++ s1 c.noise ++ s2 c.suspect ++ s2 c.alterations) ∧
   -- the areas of the status page
   (List.range 27).map (fun i => (areaOffset i, areaLen i)) =
     [(0, 16), (0x10, 16), (0x20, 16), (0x30, 32)] ++ (List.range 16).map (fun k => (0x50 + 32 * k, 32)) ++
     (List.range 4).map (fun p => (0x250 + 16 * p, 16)) ++ [(0x290, 32), (0x2B0, 16), (0x2C0, 16)] ∧
   -- the status records, each without its change count byte
   ∀ (s : State) (free : Nat → Byte),
     let record (i : Nat) : List Byte := recordBytes s free i
     let d := s.drum
     let drops := s.drops
     record 0 = [0x48, 0x58, 0x32, 0x30, 1, b s.strap.toNat] ++ zeros 9 ∧
     (s.loadResult.length = 4 → record 1 =
       [if s.resetCause = .power then 1 else 2, flag s.adopted, 0, 0] ++ s.loadResult ++ w4 s.clock.seconds.toNat ++ zeros 3) ∧
     record 2 = w2 s.notice.flags.toNat ++ w2 s.notice.enables.toNat ++
       [((lowestPending s.notice).map b).getD 0xFF, flag (attention s.notice)] ++ zeros 9 ∧
     record 3 =
       ([match d.state with | .stopped => 0 | .spinUp => 1 | .locked => 2 | .slipped => 3 | .stopping => 4 | .fault => 5,
         match d.cause with | .noFault => 0 | .stall => 1 | .spinUp => 2 | .slip => 3 | .cover => 4 | .carriage => 5,
         b (d.target.getD 0), flag d.coverOpen, match d.lamp with | .off => 0 | .warming => 1 | .ready => 2,
         match d.carriage with | .unknown => 0 | .homing _ _ => 1 | .known _ => 2, flag d.homeClosed, 0] : List Byte) ++
       w2 d.duty ++ zeros 2 ++ w4 d.tMeas ++ w4 (match d.carriage with | .known x => x | _ => 0xFFFFFFFF) ++ zeros 11 ∧
     (∀ k : Fin 16,
       let r := s.pics[k]
       record (4 + k.val) =
         ([match r.state with | .empty => 0 | .scanning => 1 | .complete => 2 | .cut => 3, b r.rpm,
           match r.cause with | .noCause => 0 | .drumFault => 1 | .referenceLost => 2 | .aborted => 3, b r.refs] : List Byte) ++
         w4 r.tag.toNat ++ w2 r.ioc ++ w2 r.samples ++ w2 r.picSamples ++ w2 r.stride ++ w2 r.lines ++ w2 r.mark ++
         w2 r.collisionDrops ++ w2 r.alteredWrites ++ w2 r.heldLines ++ w2 r.checkErrors ++ zeros 3) ∧
     (∀ p : PortNo,
       let q := s.ports[p]
       let state : Byte := match q.session.state with
         | .idle => 0 | .seizing => 1 | .calling => 2 | .caption => 3 | .phasing => 4 | .awaitPhased => 5 | .sending => 6
         | .awaitVerdict => 7 | .waiting => 8 | .quiet => 9 | .standby => 10 | .held => 11 | .closing => 12 | .parting => 13
         | .releasing => 14 | .slipWait => 15
       record (20 + p.val) =
         [state, if q.session.state = .idle ∨ q.session.state = .slipWait then free 1 else b q.session.band] ++
         w2 ((q.active.map fun x => x.job.id).getD 0) ++ [b q.queue.length, b q.contexts.length, flag q.hold, flag q.preempt] ++
         zeros 7) ∧
     record 24 = w4 drops.trailer ++ w4 drops.collision ++ w4 drops.status ++ w4 s.store.checkErrors ++ zeros 15 ∧
     (∀ f, s.store.latch = some f → record 25 = [1, b f.pic.val] ++ w2 f.line ++ w4 f.trailer ++ zeros 7) ∧
     (s.store.latch = none → record 25 = 0 :: (List.range 7).map (fun i => free (i + 1)) ++ zeros 7) ∧
     record 26 = w2 s.composer.index ++ w2 (s.composer.filled.filter id).length ++ [b s.composer.pending.length] ++ zeros 10)

/-- R3, R4, R5, R8, R9, R10, R11: how a desk access is classified. `w` is its aligned word address. R33: the five cases of a desk
write at offset `q` of a slot whose picture is not EMPTY, in the order of the table: n is the line, b the position in it, C the line
capacity of the slot. -/
def Obligations.DeskAccessesAreClassified : Prop :=
  (∀ (s : State) (x : DeskAccess),
     let w := wordAddr x
     let outsideSetup := ¬(setupBase s.strap ≤ w ∧ w < setupBase s.strap + 0x10000)
     let full := x.enables = 15
     (x.write = false → classify s x = .unit (.forward .plain)) ∧
     (x.enables = 0 → classify s x = .unit (.forward .plain)) ∧
     (x.write = true → x.enables ≠ 0 → outsideSetup → windowAt s.cfg.windows w = none →
       classify s x = .unit (.forward .plain)) ∧
     (∀ e, x.write = true → x.enables ≠ 0 → outsideSetup → windowAt s.cfg.windows w = some e →
       (e.kind = .status → classify s x = .statusDrop) ∧
       (e.kind = .jobs → ∀ j, (w - e.base = 128 * j ∧ j < s.cfg.jobSlots ∧ full ∧ x.data = 1 →
         classify s x = .unit (.forward (.post j)))) ∧
       (e.kind = .jobs → (¬∃ j, w - e.base = 128 * j ∧ j < s.cfg.jobSlots ∧ full ∧ x.data = 1) →
         classify s x = .unit (.forward .plain)) ∧
       (e.kind = .slips → ∀ i, (w - e.base = 64 * i ∧ i < s.cfg.ringCapacity ∧ full ∧ x.data = 0 ∧
           s.composer.filled.getD i false = true → classify s x = .unit (.forward (.mark i)))) ∧
       (e.kind = .slips → (¬∃ i, w - e.base = 64 * i ∧ i < s.cfg.ringCapacity ∧ full ∧ x.data = 0 ∧
           s.composer.filled.getD i false = true) → classify s x = .unit (.forward .plain)) ∧
       (e.kind = .picture → slotAt s.cfg.slots w = none → classify s x = .unit (.forward .plain)) ∧
       (e.kind = .picture → ∀ k q, slotAt s.cfg.slots w = some (k, q) →
         (s.pics[k].state = .empty → classify s x = .unit (.forward .plain)) ∧
         (s.pics[k].state ≠ .empty →
           classify s x = match dispose s.pics[k] s.cfg.slots[k].size q with
             | .plain => .unit (.forward .plain)
             | .trailerDrop => .trailerDrop
             | .collisionDrop => .collisionDrop k
             | .upkeep n => .unit (.upkeep k n (s.cfg.slots[k].base + n * s.pics[k].stride) s.pics[k].stride s.pics[k].picSamples)))) ∧
     (x.write = true → x.enables ≠ 0 → ¬outsideSetup →
       (w - setupBase s.strap = 0 → full → x.data = 1 → classify s x = .unit (.forward .load)) ∧
       (w - setupBase s.strap = 0 → ¬(full ∧ x.data = 1) → classify s x = .unit (.forward .plain)) ∧
       (w - setupBase s.strap = 8 → ∃ cs, classify s x = .unit (.forward (.clear cs)) ∧
         ∀ c : Fin 9, cs[c] = (x.enables.getLsbD (c.val / 8) && x.data.getLsbD c.val)) ∧
       (w - setupBase s.strap ≠ 0 → w - setupBase s.strap ≠ 8 → classify s x = .unit (.forward .plain)))) ∧
  (∀ (r : PictureRecord) (size q : Nat), 0 < r.stride → r.state ≠ .empty →
     let n := q / r.stride
     let b := q % r.stride
     let C := size / r.stride
     (C ≤ n → dispose r size q = .plain) ∧
     (n < C → r.stride - 4 ≤ b → dispose r size q = .trailerDrop) ∧
     (n < C → b < r.stride - 4 → r.state = .scanning → r.mark ≤ n → dispose r size q = .collisionDrop) ∧
     (n < C → b < r.stride - 4 → n < r.mark → dispose r size q = .upkeep n) ∧
     (n < C → b < r.stride - 4 → r.mark ≤ n → r.state = .complete ∨ r.state = .cut → dispose r size q = .plain))

/-- R41: the grant of a line fetch: the way that R37 chooses becomes FILLING with the line's tag and no pins, and the unit reads the
line where the picture's geometry puts it. R37: which way is chosen: an INVALID one, way 0 first; else the less recent, else the
other, if VALID and unpinned; else none. -/
def Obligations.LineFetchGrantFillsAWay : Prop :=
  (∀ (t : Nat) (s : State) (p : PortNo) (q : LineWait) (w : Bool), s.inReset = false → s.unit = none →
     nextRequest s = some (.lineFetch p) → s.ports[p].wait = some q → chooseWay s.store.sets[setIndex q.pic q.line] = some w →
     let a := advance t s
     let c := s.store.sets[setIndex q.pic q.line]
     let r := s.pics[q.pic]
     exec (.arbiterGrant t) s = .next (noteChanges a
       { a with
         store := { s.store with
           sets := s.store.sets.set (setIndex q.pic q.line)
             (putWay c w { state := .filling, pic := q.pic, line := q.line, bytes := [], pins := Vector.replicate 4 false }) }
         ports := s.ports.set p { s.ports[p] with wait := some { q with form := .granted } }
         unit := some (.lineFetch p q.pic q.line w (s.cfg.slots[q.pic].base + q.line * r.stride) r.stride r.picSamples false) })) ∧
  (∀ c : LineSet,
     let free (x : Way) : Prop := x.state = .valid ∧ pinCount x = 0
     (c.way0.state = .invalid → chooseWay c = some false) ∧
     (c.way0.state ≠ .invalid → c.way1.state = .invalid → chooseWay c = some true) ∧
     (c.way0.state ≠ .invalid → c.way1.state ≠ .invalid → free (wayOf c c.lru) → chooseWay c = some c.lru) ∧
     (c.way0.state ≠ .invalid → c.way1.state ≠ .invalid → ¬free (wayOf c c.lru) → free (wayOf c !c.lru) →
       chooseWay c = some !c.lru) ∧
     (c.way0.state ≠ .invalid → c.way1.state ≠ .invalid → ¬free (wayOf c c.lru) → ¬free (wayOf c !c.lru) → chooseWay c = none))

/-! ### Memory and the ends of the desk's units -/

/-- R3, R4, R8, R9, R11, R90, R161, R167, R176: the end of a forwarded unit: the write is in memory, the desk is released, a read
returns its data, and the watched effect takes place; nothing else changes. R3, log 5: a desk write puts its enabled bytes in its
aligned word and leaves every other byte; a desk read returns the four bytes of its word, the byte of the lowest address in lane 0. -/
def Obligations.ForwardedUnitsEnd : Prop :=
  (∀ (t : Nat) (s : State) (x : DeskAccess) (e : WatchEvent), s.inReset = false → s.unit = some (.desk x (.forward e)) →
     let a := advance t s
     let written := { a with mem := applyAccess s.mem (deskBytes x), unit := none, desk := { s.desk with access := none } }
     (x.write = false → exec (.deskRead t) s = .next (noteChanges a
       { a with unit := none, desk := { access := none, data := wordOf (readBytes s.mem (wordAddr x) 4) } })) ∧
     (x.write = true →
       (e = .plain → exec (.deskWrite t) s = .next (noteChanges a written)) ∧
       (∀ j, e = .post j → exec (.postWordWrite t) s = .next (noteChanges a
         { written with
           intake := { s.intake with queue := if j ∈ s.intake.queue then s.intake.queue else s.intake.queue ++ [j] } })) ∧
       (∀ i, e = .mark i → exec (.markWordWrite t) s = .next (noteChanges a
         (judgeWriter { written with composer := { s.composer with filled := s.composer.filled.set i false } }))) ∧
       (e = .load → exec (.loadWordWrite t) s = .next (noteChanges a
         { written with loader := if s.loader.phase = .idle then { phase := .reading 1 } else s.loader })) ∧
       (∀ cs, e = .clear cs → exec (.clearWordWrite t) s = .next (noteChanges a
         { written with
           notice := { s.notice with flags := s.notice.flags &&& ~~~cs }
           store := if cs.getLsbD 6 then { s.store with latch := none } else s.store })))) ∧
  (∀ (m : Memory) (x : DeskAccess), Memory.wf m = true →
     (∀ y, readByte (applyAccess m (deskBytes x)) y =
       if y / 4 * 4 = x.addr.toNat / 4 * 4 ∧ x.enables.getLsbD (y % 4) = true then x.data.extractLsb' (8 * (y % 4)) 8
       else readByte m y) ∧
     ∀ i : Fin 4, (wordOf (readBytes m (wordAddr x) 4)).extractLsb' (8 * i) 8 = readByte m (x.addr.toNat / 4 * 4 + i))

/-- R6, R7: the memory after a check upkeep unit of line `n` of picture `k`, whose line stands at `la`: the written bytes, and the
trailer word with its new check and ALTERED set. Every other byte stands. Which data byte stands at which address of the word is log
5. -/
def Obligations.UpkeepUnitWritesDataAndTrailer : Prop :=
  ∀ (t : Nat) (composed : List Nat) (s : State) (x : DeskAccess) (k : Fin 16) (n la stride p : Nat), s.inReset = false →
    Memory.wf s.mem = true → s.unit = some (.desk x (.upkeep k n la stride p)) → la % 4 = 0 → stride % 4 = 0 → la + stride ≤ 2 ^ 26 →
    la ≤ wordAddr x → wordAddr x + 4 ≤ la + stride - 4 →
    let T := la + stride - 4
    let old (y : Nat) : Byte := readByte s.mem y
    let inLine (i : Fin 4) : Prop := x.enables.getLsbD i = true ∧ wordAddr x + i - la < p
    let gone : Nat := ∑ i : Fin 4, if inLine i then (old (wordAddr x + i)).toNat else 0
    let come : Nat := ∑ i : Fin 4, if inLine i then (x.data.extractLsb' (8 * i) 8).toNat else 0
    let check := ((((old T).toNat + 256 * (old (T + 1)).toNat : Nat) : Int) - gone + come) % 65536
    ∃ s', exec (.checkUpkeepUnitEnd t composed) s = .next s' ∧ s'.unit = none ∧ s'.desk = { s.desk with access := none } ∧
      ∀ y, readByte s'.mem y =
        if y / 4 * 4 = wordAddr x ∧ x.enables.getLsbD (y % 4) = true then x.data.extractLsb' (8 * (y % 4)) 8
        else if y = T then BitVec.ofInt 8 check
        else if y = T + 1 then BitVec.ofInt 8 (check / 256)
        else if y = T + 3 then old (T + 3) ||| 4
        else old y

/-- R7, R48, R118, R151: what else the end of a check upkeep unit changes: the picture's altered writes, a staged copy of the line,
the bytes a frame of the line in transfer has still to compose (log 10), in the byte lanes of log 5, and for each port the staleness
or the alterations of its session and its saved contexts. -/
def Obligations.UpkeepUnitIsTold : Prop :=
  ∀ (t : Nat) (composed : List Nat) (s : State) (x : DeskAccess) (k : Fin 16) (n la stride p : Nat), s.inReset = false →
    s.unit = some (.desk x (.upkeep k n la stride p)) → la ≤ wordAddr x →
    ∃ s', exec (.checkUpkeepUnitEnd t composed) s = .next s' ∧
      s' = { advance t s with
        mem := s'.mem, unit := none, desk := { s.desk with access := none }, ports := s'.ports
        store := { s.store with sets := s'.store.sets }
        pics := s.pics.set k { s.pics[k] with alteredWrites := min 65535 (s.pics[k].alteredWrites + 1) }
        status := { s.status with changed := s'.status.changed } } ∧
      (∀ pic line, stagedBytes s'.store pic line = (stagedBytes s.store pic line).map fun bs =>
        if pic = k ∧ line = n then bs.mapIdx fun i b =>
          if i < p ∧ (la + i) / 4 * 4 = wordAddr x ∧ x.enables.getLsbD ((la + i) % 4) = true
          then x.data.extractLsb' (8 * ((la + i) % 4)) 8 else b
        else bs) ∧
      ∀ q : PortNo,
        let v := s.ports[q]
        let B := s.cfg.ports[q].bandLength
        let altered (c : Counts) : Counts := { c with alterations := min 65535 (c.alterations + 1) }
        s'.ports[q] = { v with
          session :=
            if v.session.job.map (·.pic) ≠ some k ∨ v.session.state = .idle ∨ v.session.state = .slipWait then v.session
            else if n < v.session.band * B then { v.session with counts := altered v.session.counts }
            else if n < v.session.band * B + B ∧ ∃ h, v.session.lastHanded = some h ∧ n ≤ h then { v.session with stale := true }
            else v.session
          contexts := v.contexts.map fun c =>
            if c.job.pic = k ∧ n < c.nextBand * B then { c with counts := altered c.counts } else c
          link := { v.link with
            transfer := v.link.transfer.map fun y =>
              match y.frame with
              | .picture pic line tones time bytes =>
                if pic = some k ∧ line = n then
                  { y with
                    frame := .picture pic line tones time (bytes.mapIdx fun i b =>
                      if composed.getD q.val 0 ≤ i ∧ i < p ∧ (la + i) / 4 * 4 = wordAddr x ∧ x.enables.getLsbD ((la + i) % 4) = true
                      then x.data.extractLsb' (8 * ((la + i) % 4)) 8 else b) }
                else y
              | _ => y } }

/-- R13, R21, R22, R173, R181: the bytes a unit's accesses leave in memory: those it carries, at successive addresses; for a scan line
write the density bytes, zero pad bytes and the trailer. -/
def Obligations.UnitsStoreTheirBytes : Prop :=
  ∀ (m : Memory) (addr : Nat) (bytes : List Byte), Memory.wf m = true → bytes.length ≤ 4096 →
    StoredAt m (applyAccesses m [accessOf addr bytes]) addr bytes ∧
    (bytes.length = 64 → StoredAt m (applyAccesses m (slipAccesses addr bytes)) addr bytes) ∧
    (∀ count, StoredAt m (applyAccesses m (statusAccesses addr bytes count)) addr (bytes ++ [count])) ∧
    (∀ e : LineEntry, e.bytes = bytes → StoredAt m (applyAccesses m (scanLineAccesses e addr)) addr
      (bytes ++ List.replicate ((bytes.length + 3) / 4 * 4 - bytes.length) 0 ++
        leBytes 2 ((bytes.map (·.toNat)).sum % 65536) ++ [BitVec.ofNat 8 e.line, if e.heldRef then 3 else 1])) ∧
    ∀ T, T + 4 ≤ 2 ^ 26 → ∀ y, readByte (applyAccesses m (trailerFlagAccesses m T)) y =
      if y = T + 3 then readByte m (T + 3) ||| 8 else readByte m y

/-! ### The ends of the part's own units -/

/-- R91, R160, R167, R172, R173: the ends of the writes that only answer: the bytes of the unit are in memory (UnitsStoreTheirBytes),
the arbiter is idle, the answer's notice is set, and the block that asked goes on. -/
def Obligations.AnswerWritesEnd : Prop :=
  ∀ (t : Nat) (s : State) (addr : Nat) (bytes : List Byte), s.inReset = false →
    let a := advance t s
    (s.unit = some (.resultWrite addr bytes) → exec (.resultWordWriteEnd t) s = .next (noteChanges a
      { a with
        mem := applyAccesses s.mem [accessOf addr bytes], unit := none, intake := { s.intake with hand := none }
        notice := { s.notice with flags := s.notice.flags ||| 1 } })) ∧
    (s.unit = some (.loadResult bytes) → exec (.loadResultWriteEnd t) s = .next (noteChanges a
      { a with
        mem := applyAccesses s.mem [accessOf (0x3F80000 + s.strap.toNat * 0x10000 + 4) bytes], unit := none, loadResult := bytes
        loader := { s.loader with phase := .idle }, notice := { s.notice with flags := s.notice.flags ||| 256 } })) ∧
    ∀ i count, s.unit = some (.statusWrite i addr bytes count) → exec (.statusRecordWriteEnd t) s = .next (noteChanges a
      { a with mem := applyAccesses s.mem (statusAccesses addr bytes count), unit := none })

/-- R160, R162: the end of a slip record write: the slot is FILLED, the head slip leaves, the serial and the index go on, the open
jobs fall, SLIP is set; a port none of whose blocking slips is pending any more leaves SLIP-WAIT and goes on (PortsSelect); the slip
writer is judged again. R159: the slip writer's state by its conditions, and the RING notice when it enters BLOCKED, NO-RING or SPENT.
-/
def Obligations.SlipRecordWriteEnds : Prop :=
  (∀ (t : Nat) (s : State) (i addr n : Nat) (bytes : List Byte) (x : Slip) (rest : List Slip), s.inReset = false →
     s.unit = some (.slipWrite i addr bytes) → s.composer.pending = x :: rest → s.composer.nextSerial = some n →
     let a := advance t s
     let y := { a with
       mem := applyAccesses s.mem (slipAccesses addr bytes), unit := none
       composer := { s.composer with
         filled := s.composer.filled.set i true, pending := rest, openJobs := s.composer.openJobs - 1
         nextSerial := if n = 4294967295 then none else some (n + 1)
         index := (s.composer.index + 1) % s.cfg.ringCapacity }
       notice := { s.notice with flags := s.notice.flags ||| 2 } }
     let p := x.port
     let q := s.ports[p]
     let freed := x.outcome ≠ .abortedUnsent ∧ ∀ z ∈ rest, z.port = p → z.outcome = .abortedUnsent
     let left := if q.session.state = .slipWait
       then { y with ports := y.ports.set p { q with session := {}, lineTimes := [], link := orphan q.link } } else y
     (freed → exec (.slipRecordWriteEnd t) s = .next (noteChanges a (judgeWriter (beginOrSelect p left)))) ∧
     (¬freed → exec (.slipRecordWriteEnd t) s = .next (noteChanges a (judgeWriter y)))) ∧
  (∀ s : State,
     let c := s.composer
     let v : WriterState :=
       if c.pending = [] then .idle
       else if c.nextSerial = none then .spent
       else if (∀ w ∈ s.cfg.windows.toList, w.kind ≠ .slips) then .noRing
       else if c.filled[c.index]? = some true then .blocked
       else .writing
     judgeWriter s = { s with
       composer := { c with writer := v }
       notice := { s.notice with
         flags := if v ≠ c.writer ∧ v ≠ .idle ∧ v ≠ .writing then s.notice.flags ||| 4 else s.notice.flags } })

/-- R44: the end of a trailer flag unit: SUSPECT stands in the trailer (UnitsStoreTheirBytes), the entry leaves the list, and a
failure held back joins it. -/
def Obligations.TrailerFlagUnitEnds : Prop :=
  ∀ (t : Nat) (s : State) (f : LineFailure), s.inReset = false → s.unit = some (.trailerFlag f) →
    let a := advance t s
    let rest := s.trailers.filter fun g => g.trailer ≠ f.trailer
    let b := { a with mem := applyAccesses s.mem (trailerFlagAccesses s.mem f.trailer), unit := none, trailers := rest }
    (s.store.heldFailure = none → exec (.trailerFlagUnitEnd t) s = .next (noteChanges a b)) ∧
    ∀ g, s.store.heldFailure = some g →
      (rest.length < 8 → exec (.trailerFlagUnitEnd t) s = .next (noteChanges a
        { b with
          store := { s.store with heldFailure := none }
          trailers := if ∃ h ∈ rest, h.trailer = g.trailer then rest else rest ++ [g] })) ∧
      (8 ≤ rest.length → exec (.trailerFlagUnitEnd t) s = .next (noteChanges a b))

/-- R25, R82: the end of a scan line write whose scan has ended or whose line is not the mark: the line is in memory
(UnitsStoreTheirBytes) and the buffer FREE; nothing else changes. R25, R26, R38, R82: the end of a scan line write that advances the
mark: the mark is the line after it, a HELD-REF line is counted, the line is installed (LinesAreInstalled), the ports are told in
order (PortsHearOfTheScan, log 20), the buffer is FREE; at L the picture is COMPLETE and its scan ends (ScanEnds). -/
def Obligations.ScanLineWritesEnd : Prop :=
  (∀ (t : Nat) (s : State) (b : Fin 2) (la : Nat) (e : LineEntry), s.inReset = false → s.unit = some (.scanLine b la) →
     s.pipe.buffers[b] = some e →
     ¬(s.pipe.scanId = some e.scanId ∧ s.pics[e.pic].state = .scanning ∧ s.pics[e.pic].mark = e.line) →
     let a := advance t s
     exec (.scanLineWriteEnd t) s = .next (noteChanges a
       { a with
         mem := applyAccesses s.mem (scanLineAccesses e la), unit := none
         pipe := { s.pipe with buffers := s.pipe.buffers.set b none } })) ∧
  (∀ (t : Nat) (s : State) (b : Fin 2) (la : Nat) (e : LineEntry), s.inReset = false → s.unit = some (.scanLine b la) →
     s.pipe.buffers[b] = some e → s.pipe.scanId = some e.scanId → s.pics[e.pic].state = .scanning → s.pics[e.pic].mark = e.line →
     let a := advance t s
     let k := e.pic
     let x := forPorts (lineReady k e.line e.lineTime) (installLine k e.line e.bytes
       { a with
         mem := applyAccesses s.mem (scanLineAccesses e la), unit := none
         pics := s.pics.set k { s.pics[k] with
           mark := e.line + 1, heldLines := if e.heldRef then min 4096 (s.pics[k].heldLines + 1) else s.pics[k].heldLines } })
     let free (y : State) : State := { y with pipe := { y.pipe with buffers := y.pipe.buffers.set b none } }
     x.pics[k].mark = e.line + 1 ∧ x.pics[k].lines = s.pics[k].lines ∧
     (e.line + 1 ≠ s.pics[k].lines → exec (.scanLineWriteEnd t) s = .next (noteChanges a (free x))) ∧
     (e.line + 1 = s.pics[k].lines → exec (.scanLineWriteEnd t) s = .next (noteChanges a (free (scanEnd k
       { x with pics := x.pics.set k { x.pics[k] with state := .complete, refs := x.pics[k].refs - 1 } })))))

/-! ### The Line Store -/

/-- R36, R37, R38, R40: the installation of line `n` of picture `k`: into the VALID way of its tag; else into the way R37 chooses,
whose line is then pinned for the ports that waited for it; else not at all. -/
def Obligations.LinesAreInstalled : Prop :=
  ∀ (s : State) (k : Fin 16) (n : Nat) (bytes : List Byte),
    let i := setIndex k n
    let c := s.store.sets[i]
    let waits (p : PortNo) : Bool := s.ports[p].wait.any fun q => q.pic = k && q.line = n
    let put (d : LineSet) : LineStore := { s.store with sets := s.store.sets.set i d }
    i.val = (n + 5 * k.val) % 16 ∧
    (∀ w, findWay .valid k n c = some w →
      installLine k n bytes s = { s with store := put { putWay c w { wayOf c w with bytes := bytes } with lru := !w } }) ∧
    (findWay .valid k n c = none → chooseWay c = none → installLine k n bytes s = s) ∧
    ∀ w, findWay .valid k n c = none → chooseWay c = some w →
      installLine k n bytes s = { s with
        store := put { putWay c w { state := .valid, pic := k, line := n, bytes := bytes, pins := Vector.ofFn waits } with lru := !w }
        ports := Vector.ofFn fun p => if waits p then { s.ports[p] with wait := none } else s.ports[p] }

/-- R41, R43, R44, R45, R46: the end of a line fetch. It reads the line and its trailer. Unless its picture was released while it ran,
the way becomes VALID whether or not the line passes, and the requests for it are answered; a line that fails is counted, latched and
passed to the trailer writer. Then each port goes on, in order (PortsStageAndHand, log 20). -/
def Obligations.LineFetchEnds : Prop :=
  ∀ (t : Nat) (s : State) (p : PortNo) (k : Fin 16) (n : Nat) (w : Bool) (la stride samples : Nat) (dropped : Bool),
    s.inReset = false → s.unit = some (.lineFetch p k n w la stride samples dropped) →
    let a := advance t s
    let i := setIndex k n
    let c := s.store.sets[i]
    let T := la + stride - 4
    let density := readBytes s.mem la samples
    let trailer := readBytes s.mem T 4
    let good := fieldAt trailer 0 2 = (density.map (·.toNat)).sum % 65536 ∧ byteAt trailer 2 = n % 256
    let waits (q : PortNo) : Bool := s.ports[q].wait.any fun y => y.pic = k && y.line = n
    let stood := s.ports[p].wait = some { pic := k, line := n, form := .granted }
    let f : LineFailure := { pic := k, line := n, trailer := T }
    let staged : LineStore := { s.store with
      sets := s.store.sets.set i { putWay c w { wayOf c w with
        state := .valid, bytes := density, pins := Vector.ofFn fun q => waits q || (wayOf c w).pins[q] } with lru := !w } }
    let answered := s.ports.map fun v => if v.wait.any fun y => y.pic = k && y.line = n then { v with wait := none } else v
    let known : Prop := ∃ g ∈ s.trailers, g.trailer = T
    let suspected := answered.set p { answered[p] with
      session := { answered[p].session with
        counts := { answered[p].session.counts with suspect := min 65535 (answered[p].session.counts.suspect + 1) } } }
    (dropped = true → exec (.lineFetchEnd t) s = .next (noteChanges a (forPorts service
      { a with
        unit := none
        store := { s.store with
          sets := s.store.sets.set i (putWay c w { wayOf c w with state := .invalid, pins := Vector.replicate 4 false }) }
        ports := s.ports.map fun v =>
          { v with wait := v.wait.map fun y => if y.pic = k ∧ y.line = n then { y with form := .fetching } else y } }))) ∧
    (dropped = false → good → exec (.lineFetchEnd t) s = .next (noteChanges a (forPorts service
      { a with unit := none, store := staged, ports := answered }))) ∧
    (dropped = false → ¬good → exec (.lineFetchEnd t) s = .next (noteChanges a (forPorts service
      { a with
        unit := none
        store := { staged with
          checkErrors := min 4294967295 (s.store.checkErrors + 1)
          latch := if s.store.latch = none then some f else s.store.latch
          heldFailure := if ¬known ∧ 8 ≤ s.trailers.length then some f else s.store.heldFailure }
        pics := s.pics.set k { s.pics[k] with checkErrors := min 65535 (s.pics[k].checkErrors + 1) }
        ports := if stood then suspected else answered
        notice := { s.notice with flags := s.notice.flags ||| 64 }
        trailers := if known ∨ 8 ≤ s.trailers.length then s.trailers else s.trailers ++ [f] })))

/-! ### What ports are told of the scan -/

/-- R25, R74, R82, R83, R85, R86, R117, R136, R137, R149, R150: what port `p` does when it is told that a line is ready, that the scan
has started, that it is ordered out of the live set or its candidates, and that the scan has ended: a session in STANDBY that is no
candidate judges band start again (BandsStart), and the port goes on (PortsStageAndHand). -/
def Obligations.PortsHearOfTheScan : Prop :=
  ∀ (s : State) (p : PortNo) (k : Fin 16) (n time : Nat),
    let q := s.ports[p]
    let x := q.session
    let port (v : Port) : State := { s with ports := s.ports.set p v }
    let goOn (live : LiveStatus) (y : State) : State :=
      service p (if x.state = .standby ∧ live ≠ .candidate then bandStart p y else y)
    let left : Port := { q with lineTimes := [], session := { x with live := .none, counts := { x.counts with leftLive := true } } }
    let withdrawn : Port := { q with session := { x with live := .none } }
    let concerned := x.job.map (·.pic) = some k ∧ x.state ≠ .idle ∧ x.state ≠ .slipWait
    let M := s.pics[k].mark
    let shorter (y : Session) : Session := if y.state = .sending then { y with bandEnd := min y.bandEnd (M - 1) } else y
    -- a line is ready
    (¬concerned → lineReady k n time p s = s) ∧
    (concerned → x.live = .member →
      lineReady k n time p s = goOn .member (port { q with lineTimes := q.lineTimes ++ [(n, time)] })) ∧
    (concerned → x.live ≠ .member → lineReady k n time p s = goOn x.live s) ∧
    -- the scan starts
    (x.live ≠ .candidate → joinLive p s = s) ∧
    (x.live = .candidate → joinLive p s = goOn .member
      (port { q with session := { x with live := .member, counts := { x.counts with startedLive := true } } })) ∧
    -- the pipeline orders the port out
    (x.live = .none → orderOut p s = s) ∧
    (x.live = .member → orderOut p s = goOn .none (port left)) ∧
    (x.live = .candidate → orderOut p s = goOn .none (port withdrawn)) ∧
    -- the scan ends
    (¬concerned → tellScanEnd k p s = s) ∧
    (concerned → s.pics[k].state ≠ .cut → tellScanEnd k p s = goOn .none (port withdrawn)) ∧
    (concerned → s.pics[k].state = .cut →
      tellScanEnd k p s = goOn .none (match x.live with
        | .member => port { left with session := shorter left.session }
        | _ => port { withdrawn with session := shorter withdrawn.session }))

/-- R61, R86: the end of the scan of picture `k`, once its record says how it ended: the ports are told in order (log 20), the lamp
goes off, the drum stops, idles or stays as its picture's end says, SCAN is set and the pipeline is IDLE; its full buffers stay. A
conversion request that is still unanswered stands but answers no sample (log 15). -/
def Obligations.ScanEnds : Prop :=
  ∀ (s : State) (k : Fin 16),
    let x := forPorts (tellScanEnd k) s
    let r := s.pics[k]
    let d := { s.drum with scanHeld := false, lamp := .off, settle := none }
    let stopping := { d with
      state := .stopping, duty := 0, integral := 0, stall := none, spinUp := none, slip := none, idleSpin := none, goodRun := 0
      coast := some (s.now + 250000), steps := []
      carriage := match d.carriage with | .homing _ _ => .unknown | c => c }
    scanEnd k s = { x with
      notice := { x.notice with flags := x.notice.flags ||| 8 }
      drum :=
        if r.state = .cut ∧ r.cause = .aborted then (if looping d.state = true then stopping else d)
        else if (r.state = .cut ∧ r.cause = .drumFault) ∨ d.state ≠ .locked then d
        else if s.cfg.drum.idleSpin = 0 then stopping
        else { d with idleSpin := some (s.now + s.cfg.drum.idleSpin * 1000000) }
      pipe := { x.pipe with
        state := .idle, scanId := none, candidates := Vector.replicate 4 none, bandLens := Vector.replicate 4 none, held := none
        faultRun := 0, rev := none, request := x.pipe.request.map fun r => { r with current := false }, hold := none
        startLimit := .notStarted } }

/-! ### Sessions: what a port does on its own account -/

/-- R39, R40, R113, R133, R134, R136, R137: what a port does after each event (`service`): it asks for its next line and for the line
after it, and starts an item if its link has room. `stageLine` asks for a line of the pass that is below the mark, once in the pass
and again only if the port does not pin it (log 38): a hit is pinned and becomes the more recent, also where the port pins it already;
a miss waits; `pump` hands over the first wish, or else the item of the session's state, and R118 puts the band check accumulator to 0
at the band's first line (log 11). R117, R120, R122, R133, R134, R136, R137: the frame a session would hand next, by its state. R122:
last, the two caption checks. -/
def Obligations.PortsStageAndHand : Prop :=
  (∀ (s : State) (p : PortNo),
     let q := s.ports[p]
     let x := q.session
     let port (v : Port) : State := { s with ports := s.ports.set p v }
     let units (f : Frame) : Nat := (q.link.outstanding.map itemUnits).sum + (if itemOf f = some .text then 2 else 1)
     service p s = pump p (stageLine p 1 (stageLine p 0 s)) ∧
     (∀ j d, x.job = some j →
       let n := x.nextLine + d
       let i := setIndex j.pic n
       let c := s.store.sets[i]
       let asks := x.state = .sending ∧ n ≤ x.bandEnd ∧ n < s.pics[j.pic].mark ∧
         (x.asked ≤ n ∨ holdsPin s.store p j.pic n = false) ∧ pinsHeld s.store p < 2 ∧ q.wait = none
       let asked : Port := { q with session := { x with asked := max x.asked (n + 1) } }
       (¬asks → stageLine p d s = s) ∧
       (∀ w, asks → findWay .valid j.pic n c = some w →
         stageLine p d s = { port asked with store := { s.store with
           sets := s.store.sets.set i
             { putWay c w { wayOf c w with pins := (wayOf c w).pins.set p true } with lru := !w } } }) ∧
       (asks → findWay .valid j.pic n c = none →
         stageLine p d s = port { asked with wait := some {
           pic := j.pic, line := n, form := if (findWay .filling j.pic n c).isSome then .joined else .fetching } })) ∧
     (x.job = none → ∀ d, stageLine p d s = s) ∧
     (∀ f, nextFrame s p = some f → q.link.state = .connected → q.link.flushing = false → q.link.transfer = none →
       units f ≤ 2 →
       pump p s = port { q with
         bandCheck := match f with
           | .picture _ line _ _ _ => if line = x.band * s.cfg.ports[p].bandLength then 0 else q.bandCheck
           | _ => q.bandCheck
         session := { x with wishes := x.wishes.tail }, link := { q.link with transfer := some { frame := f } } }) ∧
     (nextFrame s p = none ∨ q.link.state ≠ .connected ∨ q.link.flushing = true ∨ q.link.transfer ≠ none → pump p s = s) ∧
     ∀ f, nextFrame s p = some f → 2 < units f → pump p s = s) ∧
  (∀ (s : State) (p : PortNo) (j : Job), s.ports[p].session.job = some j →
     let x := s.ports[p].session
     let c := s.cfg.ports[p]
     let r := s.pics[j.pic]
     let rpm := if x.state = .seizing ∨ x.state = .calling then r.rpm else x.farRpm.getD r.rpm
     let time := (2 * 60000000 + rpm) / (2 * rpm)
     let tones : Tones := { white := c.white, black := c.black }
     (∀ w rest, x.wishes = w :: rest → nextFrame s p = some (match w with
       | .call => .call x.resumed (x.band % 256) time
       | .query starts => .query starts time
       | .close => .close time
       | .closePart => .closePart time)) ∧
     (x.wishes = [] →
       (x.state = .caption → nextFrame s p = if x.counts.captionSent then none
         else some (.text c.sync j.caption (captionCheck c j.caption) c.pad)) ∧
       (x.state = .phasing → nextFrame s p =
         if x.phasingHanded < c.phasingLines then some (.phasing (x.phasingHanded + 1) tones time r.picSamples) else none) ∧
       (x.state = .sending → nextFrame s p =
         if x.nextLine ≤ x.bandEnd then
           (if holdsPin s.store p j.pic x.nextLine = true ∧ x.nextLine < r.mark then
             some (.picture (some j.pic) x.nextLine tones
               (((s.ports[p].lineTimes.find? fun e => e.1 = x.nextLine).map (·.2)).getD time)
               ((stagedBytes s.store j.pic x.nextLine).getD [])) else none)
         else some (.trailer (x.band % 256) (x.bandEnd + 1 - x.band * c.bandLength) s.ports[p].bandCheck time)) ∧
       (x.state = .standby ∨ x.state = .held → nextFrame s p = some (.standby tones time r.picSamples)) ∧
       (x.state ∉ [.caption, .phasing, .sending, .standby, .held] → nextFrame s p = none))) ∧
  (∀ (c : PortSettings) (caption : List Byte),
     let shift (r : BitVec 16) : BitVec 16 := if r.getLsbD 0 = true then (r >>> 1) ^^^ 0xA001 else r >>> 1
     (c.crc = false → captionCheck c caption = (caption.foldl (fun x y => x ^^^ y) 0).toNat) ∧
     (c.crc = true → captionCheck c caption = (caption.foldl (fun r y => shift^[8] (r ^^^ y.setWidth 16)) 0).toNat))

/-- R135: band start for the current band: by the state of the picture, whether the session is a MEMBER, and how far the mark is, the
session closes, begins a pass of the band, or enters STANDBY. -/
def Obligations.BandsStart : Prop :=
  ∀ (s : State) (p : PortNo) (j : Job), s.ports[p].session.job = some j →
    let q := s.ports[p]
    let x := q.session
    let r := s.pics[j.pic]
    let B := s.cfg.ports[p].bandLength
    let F := x.band * B
    let full := min (F + B) r.lines
    let port (y : Session) : State := { s with ports := s.ports.set p { q with session := y } }
    let pass (last : Nat) : State := { s with
      ports := s.ports.set p { q with
        bandCheck := 0
        session := { x with
          state := .sending, timer := none, nextLine := F, asked := F, bandEnd := last, lastHanded := none, stale := false } } }
    (r.state = .cut → r.mark ≤ F →
      bandStart p s = port { x with state := .closing, timer := none, wishes := x.wishes ++ [.close] }) ∧
    (¬(r.state = .cut ∧ r.mark ≤ F) →
      (x.live = .member → F < r.mark → bandStart p s = pass (full - 1)) ∧
      (x.live ≠ .member →
        (r.state = .complete → bandStart p s = pass (full - 1)) ∧
        (r.state = .scanning → full ≤ r.mark → bandStart p s = pass (full - 1)) ∧
        (r.state = .cut → bandStart p s = pass (min (F + B) r.mark - 1))) ∧
      (x.live = .member → r.mark ≤ F → bandStart p s = port { x with state := .standby, timer := none }) ∧
      (x.live ≠ .member → r.state = .scanning → r.mark < full →
        bandStart p s = port { x with state := .standby, timer := none }))

/-! ### Sessions: ends, slips, selection -/

/-- R72, R107, R144, R145: the end of a session with an outcome: it leaves the live set or its candidates and reports it, its request
is withdrawn and its pins drop but the one its frame in transfer is composed from, the outcome is pending, items that wait for room
are discarded (log 14), and the line is released (LinesAreReleased): with FLUSH and RELEASE, but by RELEASE alone where a CLOSING
session ends otherwise than by an abort (log 40). Second: the four reports to the Scan Pipeline. -/
def Obligations.SessionsEnd : Prop :=
  (∀ (s : State) (p : PortNo) (o : SlipOutcome) (detail : Nat),
    let q := s.ports[p]
    let x := q.session
    let unpin (w : Way) : Way := if composing q = some (w.pic, w.line) then w else { w with pins := w.pins.set p false }
    endSession p o detail s = releaseLine p (decide (x.state ≠ .closing ∨ o = .aborted))
      { s with
        store := { s.store with sets := s.store.sets.map fun c => { c with way0 := unpin c.way0, way1 := unpin c.way1 } }
        pipe := match x.live with
          | .member => reportDone p s.pipe
          | .candidate => reportWithdrawn p s.pipe
          | .none => s.pipe
        ports := s.ports.set p { q with
          wait := none, preempt := false, lineTimes := if x.live = .member then [] else q.lineTimes
          session := { x with
            live := .none, state := .releasing, outcome := some { outcome := o, detail := detail }, timer := none, wishes := []
            ending := .ended
            counts := { x.counts with leftLive := x.counts.leftLive || decide (x.live = .member) } } } }) ∧
  ∀ (q : Pipeline) (p : PortNo),
    (q.state = .idle → reportPhased p q = q ∧ reportWithdrawn p q = q ∧ reportDone p q = q ∧ reportTrailerPlayed p q = q) ∧
    (q.state ≠ .idle →
      (q.candidates[p] ≠ none → reportPhased p q = { q with candidates := q.candidates.set p (some true) }) ∧
      (q.candidates[p] = none → reportPhased p q = q) ∧
      reportWithdrawn p q = { q with candidates := q.candidates.set p none } ∧
      (q.hold = none → reportDone p q = q ∧ reportTrailerPlayed p q = q) ∧
      ∀ l, q.hold = some l →
        reportTrailerPlayed p q = { q with hold := some (l.map fun a =>
          if a.port = p ∧ a.count = none then { a with count := some 0 } else a) } ∧
        ((∀ a ∈ l, a.port = p) → reportDone p q = { q with hold := none }) ∧
        ((∃ a ∈ l, a.port ≠ p) → reportDone p q = { q with hold := some (l.filter fun a => a.port ≠ p) }))

/-- R104, R112, R114, R144, R145, R146: the release of a port's line. FLUSH, when asked and CONNECTED, and RELEASE are sent, in this
order; the outstanding list is emptied, an item in transfer is dropped (log 12), the release timer starts at 60 s. The link is
RELEASING as soon as RELEASE is asked for, and frames asked for behind one in transfer follow it (log 13). On an ON-HOOK link the
release is complete at once: an ended session is composed into its slip (SlipsAreComposed) and stands in SLIP-WAIT, a parted one saves
its context, a bumped one leaves the port to its active job. -/
def Obligations.LinesAreReleased : Prop :=
  ∀ (s : State) (p : PortNo),
    let q := s.ports[p]
    let x := q.session
    let l := q.link
    let port (v : Port) : State := { s with ports := s.ports.set p v }
    (∀ flush : Bool,
      let gone := { l with state := .releasing, outstanding := [], flushing := false, releaseTimer := some (s.now + 60000000) }
      let flushed := flush = true ∧ l.state = .connected
      (l.state = .onHook → releaseLine p flush s = releaseComplete p s) ∧
      (l.state = .releasing → releaseLine p flush s = s) ∧
      (l.state = .dialling ∨ l.state = .connected →
        (l.transfer = none → releaseLine p flush s = port { q with link := { gone with
          transfer := some { frame := if flushed then .flush else .release }
          frames := l.frames ++ if flushed then [.release] else [] } }) ∧
        ∀ y, l.transfer = some y → releaseLine p flush s = port { q with link := { gone with
          transfer := some { y with dropped := y.dropped || (itemOf y.frame).isSome }
          frames := l.frames ++ if flushed then [.flush, .release] else [.release] } })) ∧
    (l.state ≠ .connected → askFlush l = l) ∧
    (l.state = .connected →
      (l.transfer = none →
        askFlush l = { l with outstanding := [], flushing := true, transfer := some { frame := .flush } }) ∧
      ∀ y, l.transfer = some y → askFlush l = { l with
        outstanding := [], flushing := true, transfer := some { y with dropped := y.dropped || (itemOf y.frame).isSome }
        frames := l.frames ++ [.flush] }) ∧
    (x.state ≠ .releasing → releaseComplete p s = s) ∧
    (x.state = .releasing → ∀ j, x.job = some j →
      (∀ o, x.outcome = some o → releaseComplete p s =
        compose (slipOfSession { s with
            ports := s.ports.set p { q with session := { x with counts := { x.counts with endTime := s.clock.seconds } } } } p j o)
          (port { q with
            active := none, preempt := false, lineTimes := [], link := orphan l
            session := { x with
              state := .slipWait, timer := none, counts := { x.counts with endTime := s.clock.seconds } } })) ∧
      (x.outcome = none → x.ending = .parted → releaseComplete p s = select p (port { q with
        active := none, session := {}, lineTimes := [], link := orphan l
        contexts := q.contexts ++ [{
          job := j, nextBand := x.band, firstSent := x.firstSent, counts := x.counts, parity := x.band % 2, farRpm := x.farRpm
          farIoc := x.farIoc }] })) ∧
      (x.outcome = none → x.ending = .bumped → releaseComplete p s = beginOrSelect p (port { q with
        session := {}, lineTimes := [], link := orphan l })))

/-- R152, R155, R156, R157, R158, R162: a slip is composed: its picture's reference is released, LINE is set unless it is one of the
three outcomes of a line that served, it joins the pending slips, the writer is judged, and an idle port without a job stands in
SLIP-WAIT behind a slip that blocks it. Second: what a slip of a session, of a saved context and of a queued job holds. -/
def Obligations.SlipsAreComposed : Prop :=
  ∀ (s : State) (p : PortNo),
    (∀ x : Slip,
      let r := s.pics[x.pic]
      let z := judgeWriter { s with
        pics := s.pics.set x.pic { r with refs := r.refs - 1 }
        notice := { s.notice with
          flags := if x.outcome = .delivered ∨ x.outcome = .deliveredNoReceipt ∨ x.outcome = .short then s.notice.flags
            else s.notice.flags ||| 32 }
        composer := { s.composer with pending := s.composer.pending ++ [x] } }
      let q := s.ports[x.port]
      compose x s =
        if x.outcome ≠ .abortedUnsent ∧ q.session.state = .idle ∧ q.active = none
        then { z with ports := z.ports.set x.port { q with session := { q.session with state := .slipWait } } } else z) ∧
    ∀ j : Job,
      let x := s.ports[p].session
      let r := s.pics[j.pic]
      let lines (bands : Nat) : Nat :=
        let n := min (bands * s.cfg.ports[p].bandLength) r.lines
        if r.state = .cut then min n r.mark else n
      let slip : Slip := {
        jobId := j.id, port := p, pic := j.pic, tag := r.tag, dest := j.dest, outcome := .abortedUnsent, detail := 0, prio := j.prio
        bumped := j.bumped, planned := r.lines, deliveredLines := 0, farRpm := 0, farIoc := 0
        counts := { startTime := s.clock.seconds, endTime := s.clock.seconds } }
      slipOfJob s p j = slip ∧
      (∀ o, slipOfSession s p j o = { slip with
        outcome := o.outcome, detail := o.detail, deliveredLines := lines x.delivered, farRpm := x.farRpm.getD 0
        farIoc := x.farIoc.getD 0, counts := x.counts }) ∧
      ∀ c : Context, c.job = j → slipOfContext s p c = { slip with
        outcome := .aborted, deliveredLines := lines c.nextBand, farRpm := c.farRpm.getD 0, farIoc := c.farIoc.getD 0
        counts := { c.counts with endTime := s.clock.seconds } }

/-- R100, R102, R130, R148, R162: the selection of a free port, and the beginning of a session: it seizes the line, or it is SHORT at
once where its picture is CUT at or below its band. The link is DIALLING as soon as SEIZE is asked for (log 13). `activate` makes a
live send the active job, whose session waits while a blocking slip of the port is pending (R162, log 28). `beginOrSelect` begins the
session of a waiting job, as a candidate where the pipeline still holds the port as one (log 28), and whatever the hold flag, since
R102 names only the slip that blocks it (log 43). -/
def Obligations.PortsSelect : Prop :=
  ∀ (s : State) (p : PortNo),
    let q := s.ports[p]
    let port (v : Port) : State := { s with ports := s.ports.set p v }
    let blocked := ∃ y ∈ s.composer.pending, y.port = p ∧ y.outcome ≠ .abortedUnsent
    let free := q.active = none ∧ q.session.state = .idle ∧ q.hold = false ∧ ¬blocked
    let begins (j : Job) (x : Session) (y : State) : Prop :=
      let r := s.pics[j.pic]
      let v := { q with active := some { job := j, begun := true }, lineTimes := [] }
      (r.state = .cut ∧ r.mark ≤ x.band * s.cfg.ports[p].bandLength →
        y = releaseComplete p (port { v with session := { x with state := .releasing, outcome := some { outcome := .short } } })) ∧
      (¬(r.state = .cut ∧ r.mark ≤ x.band * s.cfg.ports[p].bandLength) →
        y = port { v with
          session := { x with state := .seizing, timer := some { kind := .seize, expiry := s.now + 60000000 } }
          link := match q.link.transfer with
            | none => { q.link with state := .dialling, transfer := some { frame := .seize j.dest } }
            | some _ => { q.link with state := .dialling, frames := q.link.frames ++ [.seize j.dest] } })
    (¬free → select p s = s) ∧
    (free →
      (q.queue = [] → q.contexts = [] → select p s = s) ∧
      (∀ j rest, q.queue = j :: rest → (∀ c ∈ q.contexts.getLast?, c.job.prio < j.prio) →
        select p s = startJob p j false (port { q with queue := rest })) ∧
      (∀ cs c, q.contexts = cs ++ [c] → (∀ j ∈ q.queue.head?, j.prio ≤ c.job.prio) →
        select p s = startContext p c (port { q with contexts := cs }))) ∧
    (∀ j candidate, begins j
      { job := some j, live := if candidate = true then .candidate else .none, counts := { startTime := s.clock.seconds } }
      (startJob p j candidate s)) ∧
    (∀ c : Context, begins c.job
      { job := some c.job, resumed := true, band := c.nextBand, delivered := c.nextBand, firstSent := c.firstSent
        farRpm := c.farRpm, farIoc := c.farIoc, counts := c.counts }
      (startContext p c s)) ∧
    (∀ j candidate, activate p j candidate s =
      if blocked then port { q with active := some { job := j, begun := false } } else startJob p j candidate s) ∧
    (q.active = none → beginOrSelect p s = select p s) ∧
    ∀ a, q.active = some a →
      beginOrSelect p s = if a.begun = false ∧ q.session.state = .idle ∧ ¬blocked
        then startJob p a.job s.pipe.candidates[p].isSome s else s

/-! ### What comes back from a coupler -/

/-- R47, R111, R113, R118, R121, R133, R134, R136, R137, R184: the end of the transfer of a frame: its bytes have gone out (the link
shows them as its last frame: log 36), the line of a PICTURE frame counts in the band check accumulator (R118, log 11), the pin of a
PICTURE line drops, an item that is not dropped joins the list, the next frame asked for begins, and the hand-over counts at the port
(second part; a dropped item still counts, though it moves no state: log 11) unless the session of the frame is gone. R116, R184:
third, the bytes of each frame. The continuation flag of a CALL, to which R184 gives no codes, is 0 clear and 1 set, which is the
model's choice (log 45). -/
def Obligations.FrameTransfersEnd : Prop :=
  (∀ (t : Nat) (s : State) (p : PortNo) (x : Transfer), s.inReset = false → s.ports[p].link.transfer = some x →
    let a := advance t s
    let q := s.ports[p]
    let unpin (w : Way) : Way := match x.frame with
      | .picture (some pic) line _ _ _ => if w.pic = pic ∧ w.line = line then { w with pins := w.pins.set p false } else w
      | _ => w
    let check := match x.frame with
      | .picture _ _ _ _ bytes => (q.bandCheck + (bytes.map (·.toNat)).sum % 65536) % 65536
      | _ => q.bandCheck
    let v := { q with bandCheck := check, link := { q.link with
      outstanding := q.link.outstanding ++ (if x.dropped then [] else (itemOf x.frame).toList)
      lastFrame := frameBytes x.frame
      transfer := q.link.frames.head?.map fun f => { frame := f }
      frames := q.link.frames.tail } }
    exec (.frameTransferEnd t p) s = .next (noteChanges a (service p
      { a with
        store := { s.store with sets := s.store.sets.map fun c => { c with way0 := unpin c.way0, way1 := unpin c.way1 } }
        ports := s.ports.set p (if x.orphan then v else handOver x.frame x.dropped v) }))) ∧
  (∀ (q : Port) (dropped : Bool),
    let x := q.session
    let h (f : Frame) : Port := handOver f dropped q
    (∀ pic line tones time bytes,
      let first := x.firstSent ≤ line
      let counted := { x with
        firstSent := if first then line + 1 else x.firstSent
        counts := { x.counts with
          firstSent := if first then min 65535 (x.counts.firstSent + 1) else x.counts.firstSent
          repeated := if first then x.counts.repeated else min 65535 (x.counts.repeated + 1) } }
      let w := { q with lineTimes := q.lineTimes.filter fun e => e.1 ≠ line }
      (dropped = true → h (.picture pic line tones time bytes) = { w with session := counted }) ∧
      (dropped = false → h (.picture pic line tones time bytes) = { w with
        session := { counted with nextLine := line + 1, lastHanded := some line } })) ∧
    (∀ sync caption check pad, h (.text sync caption check pad) = { q with
      session := { x with counts := { x.counts with captionSent := true, captionBytes := caption.length } } }) ∧
    (∀ n tones time picSamples, h (.phasing n tones time picSamples) =
      if x.state = .phasing ∧ dropped = false then { q with session := { x with phasingHanded := n } } else q) ∧
    (∀ tones time picSamples, h (.standby tones time picSamples) =
      { q with session := { x with counts := { x.counts with standby := min 65535 (x.counts.standby + 1) } } }) ∧
    (∀ band len check time, h (.trailer band len check time) =
      if x.state = .sending ∧ dropped = false then { q with session := { x with state := .awaitVerdict, timer := none } } else q) ∧
    (∀ dest am white black continued band starts time,
      ∀ f ∈ [Frame.flush, .release, .seize dest, .mode am white black, .call continued band time, .query starts time, .close time,
        .closePart time], h f = q)) ∧
  (let b (n : Nat) : Byte := BitVec.ofNat 8 n
   let w2 (n : Nat) : List Byte := [b n, b (n / 256)]
   let w4 (n : Nat) : List Byte := [b n, b (n / 256), b (n / 65536), b (n / 16777216)]
   let flag (f : Bool) : Byte := if f then 1 else 0
   let line (kind : Byte) (time : Nat) (codes : List Nat) (fields : List Byte) : List Byte :=
     [3, kind] ++ w4 time ++ w2 codes.length ++ codes.flatMap w2 ++ fields
   (∀ dest, frameBytes (.seize dest) = [1] ++ dest) ∧
   (∀ am white black, frameBytes (.mode am white black) = [2, flag am] ++ w2 white ++ w2 black) ∧
   (∀ sync caption check pad, frameBytes (.text sync caption check pad) =
     [4, b sync, b caption.length] ++ caption ++ w2 check ++ [b pad]) ∧
   frameBytes .flush = [5] ∧ frameBytes .release = [6] ∧
   (∀ pic n tones time bytes, frameBytes (.picture pic n tones time bytes) =
     line 1 time (List.replicate 32 tones.white ++ bytes.map fun v => toneCode tones.white tones.black v.toNat) [b n]) ∧
   (∀ n tones time P, frameBytes (.phasing n tones time P) =
     line 2 time (List.replicate 8 tones.black ++ List.replicate (24 + P) tones.white) []) ∧
   (∀ tones time P, frameBytes (.standby tones time P) = line 3 time (List.replicate (32 + P) tones.white) []) ∧
   (∀ continued band time, frameBytes (.call continued band time) = line 4 time [] [flag continued, b band]) ∧
   (∀ band len check time, frameBytes (.trailer band len check time) = line 5 time [] ([b band, b len] ++ w2 check)) ∧
   (∀ starts time, frameBytes (.query starts time) = line 6 time [] []) ∧
   (∀ time, frameBytes (.close time) = line 7 time [] [] ∧ frameBytes (.closePart time) = line 8 time [] []))

/-- R111, R112, R113, R114, R115, R124, R131, R143, R184: what the reports of a coupler do by the state of the link: UP, FAIL, the two
DONE, SLACK, a HEARD that is noise, DROP CARRIER and DROP ON-HOOK, the release timer, and a discarded report (log 35). A report or an
expiry that the link's state rules out, a release timer not yet due among them, is no event (log 2). At DROP CARRIER an item whose
frame is in transfer is dropped with the list (log 12). What a played item does is in PlayedItemsAreTold. -/
def Obligations.LinkReportsAreTaken : Prop :=
  ∀ (t : Nat) (s : State) (p : PortNo), s.inReset = false →
    let a := advance t s
    let q := s.ports[p]
    let x := q.session
    let l := q.link
    let c := s.cfg.ports[p]
    let port (v : Port) : State := { a with ports := s.ports.set p v }
    let answers (i : Instr) (y : State) : Prop := exec i s = .next (noteChanges a y)
    let released := releaseComplete p (port { q with link := { l with state := .onHook, releaseTimer := none } })
    let lost := port { q with link := { l with
      state := .onHook, outstanding := [], flushing := false
      transfer := l.transfer.map fun y => if (itemOf y.frame).isSome then { y with dropped := true } else y } }
    -- UP and FAIL on a DIALLING link
    (l.state = .dialling →
      answers (.up t p) (service p (port { q with
        session := { x with
          state := .calling, wishes := x.wishes ++ [.call], timer := some { kind := .ready, expiry := max s.now t + 30000000 } }
        link := match l.transfer with
          | none => { l with state := .connected, transfer := some { frame := .mode c.am c.white c.black } }
          | some _ => { l with state := .connected, frames := l.frames ++ [.mode c.am c.white c.black] } })) ∧
      ∀ cause, answers (.fail t p cause) (endSession p .lineFailed (match cause with | .busy => 1 | .noAnswer => 2 | .noDialtone => 3)
        (port { q with link := { l with state := .onHook } }))) ∧
    (l.state ≠ .dialling → answers (.up t p) a ∧ ∀ cause, answers (.fail t p cause) a) ∧
    -- DONE
    (∀ i rest, l.state = .connected → l.flushing = false → l.outstanding = i :: rest →
      answers (.doneItem t p) (service p (itemPlayed p i (port { q with link := { l with outstanding := rest } })))) ∧
    (l.state ≠ .connected ∨ l.flushing = true ∨ l.outstanding = [] → answers (.doneItem t p) a) ∧
    (l.state = .connected → l.flushing = true →
      answers (.doneFlush t p) (service p (port { q with link := { l with flushing := false } }))) ∧
    (l.state ≠ .connected ∨ l.flushing = false → answers (.doneFlush t p) a) ∧
    -- SLACK and noise
    (l.state = .connected →
      answers (.slack t p) (port { q with session := { x with
        counts := { x.counts with slack := min 65535 (x.counts.slack + 1) } } }) ∧
      ∀ code duration data, BitVec.toNat duration < c.minDuration ∨ signalOf code data = none →
        answers (.heard t p code duration data) (port { q with session := { x with
          counts := { x.counts with noise := min 255 (x.counts.noise + 1) } } })) ∧
    (l.state ≠ .connected → answers (.slack t p) a ∧ ∀ code duration data, answers (.heard t p code duration data) a) ∧
    -- DROP and the release timer
    (l.state = .connected →
      (x.state = .closing → answers (.dropCarrier t p) (endClose p false lost)) ∧
      (x.state = .parting → answers (.dropCarrier t p) (releaseParted p lost)) ∧
      (x.state ∈ [.idle, .seizing, .releasing, .slipWait] → answers (.dropCarrier t p) lost) ∧
      (x.state ∉ [.idle, .seizing, .closing, .parting, .releasing, .slipWait] →
        answers (.dropCarrier t p) (endSession p .carrierLost 0 lost))) ∧
    (l.state ≠ .connected → answers (.dropCarrier t p) a) ∧
    (l.state = .releasing → answers (.dropOnHook t p) released ∧
      (∀ e, l.releaseTimer = some e → e ≤ max s.now t → answers (.releaseTimerExpiry t p) released) ∧
      ((∀ e, l.releaseTimer = some e → max s.now t < e) → answers (.releaseTimerExpiry t p) a)) ∧
    (l.state ≠ .releasing → answers (.dropOnHook t p) a ∧ answers (.releaseTimerExpiry t p) a) ∧
    ∀ frame, answers (.reportDiscarded t p frame) a

/-- R103, R113, R133, R134, R136, R138, R142, R146, R147: what a session does when an item of its has been played, and a band
boundary: the session parts for a standing preempt request, is HELD on a held port, or goes on. Items that wait for room are discarded
when a PARTING session goes on to its release (log 14). -/
def Obligations.PlayedItemsAreTold : Prop :=
  ∀ (s : State) (p : PortNo),
    let q := s.ports[p]
    let x := q.session
    let c := s.cfg.ports[p]
    let session (y : Session) : State := { s with ports := s.ports.set p { q with session := y } }
    let unpin (w : Way) : Way := if composing q = some (w.pic, w.line) then w else { w with pins := w.pins.set p false }
    let verdict := session { x with timer := some { kind := .verdict, expiry := s.now + c.verdictTime * 1000000 } }
    (x.state = .caption → itemPlayed p .text s = session { x with state := .phasing, timer := none, round := 1, phasingHanded := 0 }) ∧
    (∀ n, x.state = .phasing → itemPlayed p (.phasing n) s =
      if n = c.phasingLines
      then session { x with state := .awaitPhased, timer := some { kind := .phased, expiry := s.now + 5000000 } } else s) ∧
    (x.state = .standby → itemPlayed p .standby s = boundary p id s) ∧
    (x.state = .awaitVerdict →
      itemPlayed p (.trailer true) s =
        { verdict with pipe := if x.live = .member then reportTrailerPlayed p s.pipe else s.pipe } ∧
      itemPlayed p (.query true) s = verdict ∧
      itemPlayed p (.trailer false) s = s ∧ itemPlayed p (.query false) s = s) ∧
    (x.state = .closing →
      itemPlayed p .close s = session { x with timer := some { kind := .receipt, expiry := s.now + 10000000 } }) ∧
    (x.state = .parting → itemPlayed p .closePart s = releaseParted p s) ∧
    releaseParted p s = releaseLine p false (session { x with state := .releasing, timer := none, wishes := [], ending := .parted }) ∧
    (∀ goOn : State → State,
      let clear := { s with ports := s.ports.set p { q with preempt := false } }
      (requestStands q = true → boundary p goOn s = part p clear) ∧
      (requestStands q = false → q.hold = true → x.live ≠ .member →
        boundary p goOn s = { s with ports := s.ports.set p { q with
          preempt := false, session := { x with state := .held, timer := none } } }) ∧
      (requestStands q = false → q.hold = true → x.live = .member →
        boundary p goOn s = { s with
          pipe := reportDone p s.pipe
          ports := s.ports.set p { q with
            preempt := false, lineTimes := []
            session := { x with
              state := .held, timer := none, live := .none, counts := { x.counts with leftLive := true } } } }) ∧
      (requestStands q = false → q.hold = false → boundary p goOn s = goOn clear)) ∧
    (∀ j rest b, q.queue = j :: rest → q.active = some b → (requestStands q = true ↔ q.preempt = true ∧ b.job.prio < j.prio)) ∧
    (q.queue = [] ∨ q.active = none → requestStands q = false) ∧
    part p s = { s with
      store := { s.store with sets := s.store.sets.map fun c => { c with way0 := unpin c.way0, way1 := unpin c.way1 } }
      pipe := match x.live with
        | .member => reportDone p s.pipe
        | .candidate => reportWithdrawn p s.pipe
        | .none => s.pipe
      ports := s.ports.set p { q with
        wait := none, lineTimes := if x.live = .member then [] else q.lineTimes
        session := { x with
          live := .none, state := .parting, timer := none, wishes := x.wishes ++ [.closePart]
          counts := { x.counts with
            leftLive := x.counts.leftLive || decide (x.live = .member), preemptions := min 255 (x.counts.preemptions + 1) } } } }

/-- R123, R124, R141, R142, R143, log 9: a valid far signal of sufficient length on a CONNECTED link is taken by the session
(SessionsTakeReadyAndPhased, SessionsTakeVerdicts), whether it comes as HEARD or as its own row; which signal a report's code and data
spell (R184); and what RECEIPT, HANG and a signal the session does not expect do. A READY whose caption capable byte is neither 0 nor
1 spells none, which is the model's choice (log 47). At a collision the items that wait for room are discarded (log 14); the item in
transfer is dropped, and a third collision asks for FLUSH twice (log 12). -/
def Obligations.FarSignalsAreTaken : Prop :=
  (∀ (t : Nat) (s : State) (p : PortNo), s.inReset = false → s.ports[p].link.state = .connected →
    let a := advance t s
    let taken (i : Instr) (sig : FarSignal) : Prop := exec i s = .next (noteChanges a (service p (takeSignal p sig a)))
    (∀ rpm ioc capable, BitVec.toNat rpm ∈ [60, 90, 120] →
      taken (.ready t p rpm ioc capable) (.ready (BitVec.toNat rpm) (BitVec.toNat ioc) capable)) ∧
    taken (.phased t p) .phased ∧ taken (.goodA t p) .goodA ∧ taken (.goodB t p) .goodB ∧ taken (.again t p) .again ∧
    taken (.wait t p) .wait ∧ taken (.hang t p) .hang ∧
    (∀ n, BitVec.toNat n ≤ 999999 → taken (.receipt t p n) (.receipt (BitVec.toNat n))) ∧
    ∀ code duration data sig, s.cfg.ports[p].minDuration ≤ BitVec.toNat duration → signalOf code data = some sig →
      taken (.heard t p code duration data) sig) ∧
  -- what a report spells, byte by byte, and the data each code requires
  (∀ rpm lo hi cap : Byte, signalOf 1 [rpm, lo, hi, cap] =
     if rpm.toNat ∈ [60, 90, 120] ∧ cap.toNat ≤ 1 then some (.ready rpm.toNat (lo.toNat + 256 * hi.toNat) (cap.toNat = 1)) else none) ∧
  (∀ a b c d : Byte,
     let n := a.toNat + 256 * b.toNat + 65536 * c.toNat + 16777216 * d.toNat
     signalOf 7 [a, b, c, d] = if n ≤ 999999 then some (.receipt n) else none) ∧
  ([2, 3, 4, 5, 6, 8].map fun c => signalOf c []) =
    [some .phased, some .goodA, some .goodB, some .again, some .wait, some .hang] ∧
  (∀ (code : Byte) (data : List Byte), (signalOf code data).isSome →
     (code.toNat, data.length) ∈ [(1, 4), (2, 0), (3, 0), (4, 0), (5, 0), (6, 0), (7, 4), (8, 0)]) ∧
  ∀ (s : State) (p : PortNo),
    let q := s.ports[p]
    let x := q.session
    let session (y : Session) : State := { s with ports := s.ports.set p { q with session := y } }
    let noise := session { x with counts := { x.counts with noise := min 255 (x.counts.noise + 1) } }
    let unpin (w : Way) : Way := if composing q = some (w.pic, w.line) then w else { w with pins := w.pins.set p false }
    let hit := { x with
      wishes := [], bandCollisions := x.bandCollisions + 1
      counts := { x.counts with collisions := min 255 (x.counts.collisions + 1) } }
    let flushed := askFlush q.link
    let store := { s.store with sets := s.store.sets.map fun c => { c with way0 := unpin c.way0, way1 := unpin c.way1 } }
    -- RECEIPT and HANG
    (∀ n, x.state = .closing → takeSignal p (.receipt n) s =
      endClose p true (session { x with counts := { x.counts with receipt := n, receiptPresent := true } })) ∧
    (x.state = .closing → takeSignal p .hang s = endClose p false s) ∧
    (x.state = .parting → takeSignal p .hang s = releaseParted p s) ∧
    (x.state ∈ [.idle, .seizing, .releasing, .slipWait] → takeSignal p .hang s = s) ∧
    (x.state ∉ [.idle, .seizing, .closing, .parting, .releasing, .slipWait] →
      takeSignal p .hang s = endSession p .farHung 0 s) ∧
    (∀ received j, x.job = some j →
      let r := s.pics[j.pic]
      let n := min (x.delivered * s.cfg.ports[p].bandLength) r.lines
      let whole := r.lines ≤ if r.state = .cut then min n r.mark else n
      endClose p received s =
        endSession p (if ¬whole then .short else if received = true then .delivered else .deliveredNoReceipt) 0 s) ∧
    -- a signal not expected
    (∀ sig, sig ≠ .hang →
      (sig = .phased → x.state ∉ [.phasing, .awaitPhased]) →
      ((∃ rpm ioc capable, sig = .ready rpm ioc capable) → x.state ≠ .calling) →
      (sig ∈ [.goodA, .goodB, .again, .wait] → x.state ∉ [.awaitVerdict, .waiting]) →
      ((∃ n, sig = .receipt n) → x.state ≠ .closing) →
      (x.state ∉ [.idle, .seizing, .sending, .releasing, .slipWait] → takeSignal p sig s = noise) ∧
      (x.state ∈ [.idle, .seizing, .releasing, .slipWait] → takeSignal p sig s = s) ∧
      (x.state = .sending →
        (3 ≤ x.bandCollisions + 1 → takeSignal p sig s = endSession p .lineNoise 0 { s with
          store := store, ports := s.ports.set p { q with wait := none, link := flushed, session := hit } }) ∧
        (x.bandCollisions + 1 < 3 → takeSignal p sig s = { s with
          store := store
          pipe := if x.live = .member then reportDone p s.pipe else s.pipe
          ports := s.ports.set p { q with
            wait := none, link := flushed, lineTimes := if x.live = .member then [] else q.lineTimes
            session := { hit with
              state := .quiet, timer := some { kind := .quiet, expiry := s.now + 500000 }
              live := if x.live = .member then .none else x.live
              counts := { hit.counts with leftLive := x.counts.leftLive || decide (x.live = .member) } } } })))

/-- R123, R132, R134, R147, R148: READY taken in CALLING and PHASED taken in PHASING or AWAIT-PHASED. -/
def Obligations.SessionsTakeReadyAndPhased : Prop :=
  ∀ (s : State) (p : PortNo) (j : Job), s.ports[p].session.job = some j →
    let q := s.ports[p]
    let x := q.session
    let r := s.pics[j.pic]
    let session (y : Session) : State := { s with ports := s.ports.set p { q with session := y } }
    (∀ rpm ioc capable, x.state = .calling →
      let told := { x with timer := none, farRpm := some rpm, farIoc := some ioc, capable := capable }
      let unfit := rpm ≠ r.rpm ∧ x.live = .candidate
      let y := { told with live := if unfit then .none else x.live }
      let st (z : Session) : State := { session z with pipe := if unfit then reportWithdrawn p s.pipe else s.pipe }
      (ioc ≠ r.ioc → takeSignal p (.ready rpm ioc capable) s = endSession p .mismatchIoc 0 (session told)) ∧
      (ioc = r.ioc → x.resumed = false → j.caption ≠ [] → capable = true →
        takeSignal p (.ready rpm ioc capable) s = st { y with state := .caption }) ∧
      (ioc = r.ioc → x.resumed = true ∨ j.caption = [] ∨ capable = false →
        takeSignal p (.ready rpm ioc capable) s = st { y with state := .phasing, round := 1, phasingHanded := 0 })) ∧
    (x.state = .phasing ∨ x.state = .awaitPhased →
      (x.live = .candidate → takeSignal p .phased s =
        { session { x with state := .standby, timer := none } with pipe := reportPhased p s.pipe }) ∧
      (x.live = .none → q.hold = true → takeSignal p .phased s = session { x with state := .held, timer := none }) ∧
      (x.live ≠ .candidate → q.hold = false → takeSignal p .phased s = bandStart p s))

/-- R135, R138, R139, R140: the verdicts taken in AWAIT-VERDICT or WAITING. GOOD-A is expected of an even band and GOOD-B of an odd
one: the band is repeated while it is stale and not twice resent, else the session closes after the last band or goes on over a band
boundary (PlayedItemsAreTold). The other GOOD is noise and counts as AGAIN. R138: at any verdict the timer stops, and no DONE of a
TRAILER or QUERY handed before starts it again. A QUERY that still waits for room is kept, and its DONE starts no timer either, which
is the model's choice (log 14). -/
def Obligations.SessionsTakeVerdicts : Prop :=
  ∀ (s : State) (p : PortNo) (j : Job), s.ports[p].session.job = some j →
    s.ports[p].session.state = .awaitVerdict ∨ s.ports[p].session.state = .waiting →
    let q := s.ports[p]
    let r := s.pics[j.pic]
    let B := s.cfg.ports[p].bandLength
    -- the verdict timer stops, and no DONE of an item handed before starts it
    let calmed (i : Item) : Item := match i with | .trailer _ => .trailer false | .query _ => .query false | i => i
    let calmedFrame (f : Frame) : Frame := match f with | .query _ time => .query false time | f => f
    let calmedWish (w : Wish) : Wish := match w with | .query _ => .query false | w => w
    let calm := { q with
      link := { q.link with
        outstanding := q.link.outstanding.map calmed
        transfer := q.link.transfer.map fun y : Transfer => { y with frame := calmedFrame y.frame } }
      session := { q.session with
        timer := none, wishes := q.session.wishes.map calmedWish } }
    let x := calm.session
    let port (v : Port) : State := { s with ports := s.ports.set p v }
    let off := x.live = .member
    let left (y : Session) : Session :=
      { y with live := if off then .none else y.live, counts := { y.counts with leftLive := y.counts.leftLive || decide off } }
    -- the session `y`, having left the live set
    let away (y : Session) : State :=
      { port { calm with lineTimes := if off then [] else calm.lineTimes, session := left y } with
        pipe := if off then reportDone p s.pipe else s.pipe }
    let again (y : Session) (sig : FarSignal) : Prop :=
      let z := { y with queries := 0, waitRun := 0, agains := y.agains + 1 }
      (4 ≤ y.agains + 1 → takeSignal p sig s = endSession p .bandRejected 0 (port { calm with session := z })) ∧
      (y.agains + 1 < 4 → takeSignal p sig s = bandStart p (away z))
    let good (sig : FarSignal) : Prop :=
      let y := { x with queries := 0, waitRun := 0, delivered := max x.delivered (x.band + 1) }
      let kept (z : Session) : State :=
        { port { calm with session := z } with pipe := if off then reportDone p s.pipe else s.pipe }
      let next (z : Session) : Prop :=
        let last := ((if r.state = .cut then r.mark else r.lines) - 1) / B
        (x.band = last → takeSignal p sig s = kept { z with state := .closing, timer := none, wishes := z.wishes ++ [.close] }) ∧
        (x.band ≠ last → takeSignal p sig s =
          boundary p (bandStart p) (kept { z with band := x.band + 1, agains := 0, bandCollisions := 0, staleResends := 0 }))
      (x.stale = true → x.staleResends < 2 → takeSignal p sig s =
        bandStart p (away { y with staleResends := x.staleResends + 1 })) ∧
      (x.stale = true → 2 ≤ x.staleResends →
        next { y with counts := { y.counts with alterations := min 65535 (x.counts.alterations + 1) } }) ∧
      (x.stale = false → next y)
    let noisy := { x with counts := { x.counts with noise := min 255 (x.counts.noise + 1) } }
    (x.band % 2 = 0 → good .goodA ∧ again noisy .goodB) ∧
    (x.band % 2 = 1 → good .goodB ∧ again noisy .goodA) ∧
    again x .again ∧
    (8 < x.waitRun + 1 → takeSignal p .wait s =
      endSession p .farStalled 0 (port { calm with session := { x with waitRun := x.waitRun + 1 } })) ∧
    (x.waitRun + 1 ≤ 8 → takeSignal p .wait s = away { x with
      waitRun := x.waitRun + 1, queries := 0, state := .waiting
      timer := some { kind := .wait, expiry := s.now + s.cfg.ports[p].waitTime * 1000000 } })

/-- R131, R132, R134, R138, R140, R141, R142: the expiry of each session timer, once due: the session ends, phases again, queries, or
starts its band again, and the port goes on (PortsStageAndHand). The expiry of a timer that is not running or not due is no event (log
2). A query counts at the expiry that asks for it (log 32). -/
def Obligations.SessionTimersExpire : Prop :=
  ∀ (t : Nat) (s : State) (p : PortNo), s.inReset = false →
    let a := advance t s
    let q := s.ports[p]
    let x := { q.session with timer := none }
    let session (y : Session) : State := { a with ports := s.ports.set p { q with session := y } }
    let due (kind : TimerKind) : Prop := ∃ e ≤ max s.now t, q.session.timer = some { kind := kind, expiry := e }
    let answers (i : Instr) (y : State) : Prop := exec i s = .next (noteChanges a (service p y))
    let asks (i : Instr) (y : Session) : Prop :=
      (x.queries < 3 → answers i (session { y with
        queries := x.queries + 1, wishes := x.wishes ++ [.query true]
        counts := { x.counts with queries := min 255 (x.counts.queries + 1) } })) ∧
      (3 ≤ x.queries → answers i (endSession p .noVerdict 0 (session y)))
    (due .seize → answers (.seizeTimerExpiry t p) (endSession p .lineFailed 0 (session x))) ∧
    (due .ready → answers (.readyTimerExpiry t p) (endSession p .noAnswer 0 (session x))) ∧
    (due .phased →
      (x.round < 3 → answers (.phasedTimerExpiry t p) (session { x with state := .phasing, round := x.round + 1, phasingHanded := 0 })) ∧
      (3 ≤ x.round → answers (.phasedTimerExpiry t p) (endSession p .notPhased 0 (session x)))) ∧
    (due .verdict → asks (.verdictTimerExpiry t p) x) ∧
    (due .wait → asks (.waitTimerExpiry t p) { x with state := .awaitVerdict }) ∧
    (due .quiet → answers (.quietTimerExpiry t p) (bandStart p (session x))) ∧
    (due .receipt → answers (.receiptTimerExpiry t p) (endClose p false (session x))) ∧
    ∀ i kind, (i, kind) ∈ [(Instr.seizeTimerExpiry t p, TimerKind.seize), (.readyTimerExpiry t p, .ready),
        (.phasedTimerExpiry t p, .phased), (.verdictTimerExpiry t p, .verdict), (.waitTimerExpiry t p, .wait),
        (.quietTimerExpiry t p, .quiet), (.receiptTimerExpiry t p, .receipt)] →
      ¬due kind → exec i s = .next a

/-! ### Job Intake -/

/-- R90, R91, R163: the idle reader takes the slot at the head of the queue unless more than 40 send jobs are open or no JOBS window
is adopted; the end of a record read goes on to the captions a record in order asks for, lowest slot first, or judges the job; the end
of a caption read keeps its part. R91, R93: the caption reads of a caption, in order, bring its bytes. -/
def Obligations.IntakeReads : Prop :=
  (∀ (t : Nat) (s : State), s.inReset = false →
     let a := advance t s
     let hand (h : Hand) : State := { a with unit := none, intake := { s.intake with hand := some h } }
     (∀ j rest b, s.intake.hand = none → s.intake.queue = j :: rest → jobsBase s = some b →
       (s.composer.openJobs ≤ 40 → exec (.intakeReaderTake t) s = .next (noteChanges a
         { a with intake := { s.intake with
           queue := rest
           hand := some { slot := j, addr := b + 128 * j, phase := .reading, record := [], captions := [[], [], [], []], todo := []
                          result := [] } } })) ∧
       (40 < s.composer.openJobs → exec (.intakeReaderTake t) s = .next a)) ∧
     (s.intake.hand ≠ none ∨ s.intake.queue = [] ∨ jobsBase s = none → exec (.intakeReaderTake t) s = .next a) ∧
     ∀ addr h, s.unit = some (.jobRead addr) → s.intake.hand = some h →
       let slot := readBytes s.mem addr 128
       let ok := ∀ c ∈ recSends slot, c.2.captionLen = 0 ∨ c.2.captionLen ≤ 240 ∧
         ∃ b, jobsBase s = some b ∧ b ≤ c.2.captionAddr ∧ c.2.captionAddr + c.2.captionLen ≤ b + 128 * s.cfg.jobSlots
       (∀ b, h.phase = .reading → ok → jobsBase s = some b → (recSends slot).flatMap (captionReadsOf b) ≠ [] →
         exec (.jobRecordReadEnd t) s = .next (noteChanges a
           (hand { h with record := slot, todo := (recSends slot).flatMap (captionReadsOf b), phase := .caption }))) ∧
       (h.phase = .reading → (∀ b, ok → jobsBase s = some b → (recSends slot).flatMap (captionReadsOf b) = []) →
         exec (.jobRecordReadEnd t) s = .next (noteChanges a
           (judgeJob { h with record := slot, todo := [] } (hand { h with record := slot, todo := [] })))) ∧
       ∀ c rest, h.phase = .caption → h.todo = c :: rest →
         let kept := { h with todo := rest, captions := h.captions.modify c.which fun bs => bs ++ captionPart c slot }
         (rest ≠ [] → exec (.jobRecordReadEnd t) s = .next (noteChanges a (hand kept))) ∧
         (rest = [] → exec (.jobRecordReadEnd t) s = .next (noteChanges a (judgeJob kept (hand kept))))) ∧
  (∀ (m : Memory) (b which : Nat) (f : SendFields), b ≤ f.captionAddr → f.captionLen ≤ 240 →
     (captionReadsOf b (which, f)).flatMap (fun c => captionPart c (readBytes m c.slotAddr 128)) =
       readBytes m f.captionAddr f.captionLen) ∧
  (∀ r : List Byte,
     (byteAt r 8 = 1 → recSends r = ((List.finRange 4).filter fun p => (byteAt r 14).testBit p.val).map fun p => (p.val, {
       dest := bytesAt r (28 + 16 * p.val) 8, captionAddr := fieldAt r (36 + 16 * p.val) 4 % 2 ^ 26
       captionLen := byteAt r (40 + 16 * p.val), prio := byteAt r (41 + 16 * p.val) })) ∧
     (byteAt r 8 = 2 → recSends r = [(0, {
       dest := bytesAt r 16 8, captionAddr := fieldAt r 24 4 % 2 ^ 26, captionLen := byteAt r 15, prio := byteAt r 14 })]) ∧
     (byteAt r 8 ≠ 1 → byteAt r 8 ≠ 2 → recSends r = []))

/-- R92, R93, R97, R179: the job in hand is judged by the checks in their order: the code of the first that fails is its refusal, and
a refused job changes nothing but the answer. Check 13 reads R93 as it stands, and passes a live port whose active job waits for a
blocking slip (log 19). The answer goes to ANSWERING, or with no JOBS window ends at once. -/
def Obligations.RefusalsInOrder : Prop :=
  (∀ (s : State) (r : List Byte),
    let kind := byteAt r 8
    let scan := kind = 1
    let send := kind = 2
    let named : List PortNo :=
      if scan then livePorts (recMask r)
      else if send then (List.finRange 4).filter fun p => p.val = byteAt r 13
      else if kind = 6 ∨ kind = 7 then (List.finRange 4).filter fun p => p.val = byteAt r 12 else []
    let pic := s.pics[recSlot r]
    let size := s.cfg.slots[recSlot r].size
    refusalOf s r =
      if s.adopted = false then some 1
      else if kind < 1 ∨ 7 < kind then some 2
      else if kind ∈ [1, 2, 4, 5] ∧ 15 < byteAt r 12 then some 3
      else if (send ∧ 3 < byteAt r 13) ∨ (kind ∈ [6, 7] ∧ 3 < byteAt r 12) ∨ (scan ∧ 15 < byteAt r 14) then some 4
      else if ∃ p ∈ named, s.cfg.ports[p].enabled = false then some 5
      else if ∃ c ∈ recSends r, c.2.prio < 1 ∨ 7 < c.2.prio then some 6
      else if ∃ c ∈ recSends r, c.2.captionLen ≠ 0 ∧ (240 < c.2.captionLen ∨ ¬((jobsBase s).any fun b =>
          b ≤ c.2.captionAddr && c.2.captionAddr + c.2.captionLen ≤ b + 128 * s.cfg.jobSlots) = true) then some 7
      else if scan ∧ (fieldAt r 20 2 < 200 ∨ 600 < fieldAt r 20 2) then some 8
      else if scan ∧ byteAt r 13 ∉ [60, 90, 120] then some 9
      else if scan ∧ (fieldAt r 22 2 < 32 ∨ 4096 < fieldAt r 22 2 ∨ size < fieldAt r 22 2 * strideOf (fieldAt r 20 2)) then some 10
      else if (scan ∧ pic.state ≠ .empty) ∨ (send ∧ pic.state = .empty) then some 11
      else if scan ∧ ∃ k : Fin 16, s.pics[k].state = .scanning then some 12
      else if scan ∧ ∃ p ∈ named, s.ports[p].session.state ≠ .idle ∨ s.ports[p].hold = true ∨ s.ports[p].contexts ≠ []
        then some 13
      else if scan ∧ s.drum.coverOpen = true then some 14
      else if send ∧ ∃ p ∈ named, 8 ≤ s.ports[p].queue.length then some 15
      else if kind = 5 ∧ (pic.state = .scanning ∨ (pic.state ≠ .empty ∧ pic.refs ≠ 0)) then some 16
      else if kind = 3 ∧ ∀ p : PortNo, (s.ports[p].queue.any fun j => j.id = fieldAt r 12 2) = false ∧
          (s.ports[p].active.any fun b => b.job.id = fieldAt r 12 2 && (!b.begun || s.ports[p].session.outcome = none)) = false ∧
          (s.ports[p].contexts.any fun c => c.job.id = fieldAt r 12 2) = false then some 17
      else none) ∧
  ∀ (s : State) (h : Hand),
    (∀ code, refusalOf s h.record = some code → judgeJob h s = answer h [2, BitVec.ofNat 8 code, 0, 0] s) ∧
    (∀ result, (jobsBase s).isSome = true →
      answer h result s = { s with intake := { s.intake with hand := some { h with phase := .answering, result := result } } }) ∧
    ∀ result, jobsBase s = none → answer h result s = { s with
      intake := { s.intake with hand := none }, notice := { s.notice with flags := s.notice.flags ||| 1 } }

/-- R92, R94, R96, R105, R106, R107, R108, R30, R31, R95, log 8: a job of each kind that is taken gets the next id, has its effect,
and is answered; the row that names its kind and the row of the read's end are then the same event; an abort goes through the ports in
order (log 20). The effects are in ScanJobsAreDispatched, SendJobsAreDispatched, AbortsTakeJobsOut and
PortAndPictureJobsAreDispatched. -/
def Obligations.JobsAreTaken : Prop :=
  ∀ (t : Nat) (s : State) (addr : Nat) (h : Hand), s.inReset = false → s.unit = some (.jobRead addr) →
    let a := advance t s
    let x := finishRead addr a
    readyHand x = some h → refusalOf x h.record = none →
    let id := if 65535 ≤ s.intake.jobId then 1 else s.intake.jobId + 1
    let y := { x with intake := { x.intake with jobId := id } }
    let taken (i : Instr) (z : State) : Prop :=
      exec i s = .next (noteChanges a (answer h ([1, 0] ++ leBytes 2 id) z)) ∧ exec (.jobRecordReadEnd t) s = exec i s
    (byteAt h.record 8 = 1 → taken (.scan t) (dispatchScan h id y)) ∧
    (byteAt h.record 8 = 2 → taken (.send t) (dispatchSend h id y)) ∧
    (byteAt h.record 8 = 3 → taken (.abortJob t) (forPorts (abortPort (.id (fieldAt h.record 12 2))) y)) ∧
    (byteAt h.record 8 = 4 → taken (.abortPicture t)
      (forPorts (abortPort (.picture (recSlot h.record))) (cutPicture (recSlot h.record) .aborted y))) ∧
    (byteAt h.record 8 = 5 → taken (.releasePicture t) (dispatchReleasePicture h y)) ∧
    (byteAt h.record 8 = 6 → taken (.holdPort t) (dispatchHoldPort h y)) ∧
    (byteAt h.record 8 = 7 → taken (.resumePort t) (dispatchResumePort h y))

/-- R20, R24, R28, R51, R62, R64, R71, R95, R98, R102, R162, R163: a SCAN job: the picture's record is made with its geometry and
becomes SCANNING, the drum, the lamp and the carriage are made ready, the pipeline is STARTING, and each live send becomes its port's
active job, in port order (log 20), and its session begins as a candidate or waits for a slip that blocks the port (PortsSelect, log
28). The scan begins homed where the carriage is home already (log 37). A job that waits there goes back to its queue, or is composed
ABORTED-UNSENT where the queue is full (log 19). -/
def Obligations.ScanJobsAreDispatched : Prop :=
  ∀ (h : Hand) (id : Nat) (s : State),
    let r := h.record
    let k := recSlot r
    let rpm := byteAt r 13
    let ioc := fieldAt r 20 2
    let S := (ioc * 355 + 56) / 113
    let live := (List.finRange 4).filter fun p : PortNo => (byteAt r 14).testBit p.val
    let d := s.drum
    let spinning := (d.state = .spinUp ∨ d.state = .locked ∨ d.state = .slipped) ∧ d.target = some rpm
    let c := s.cfg.drum
    let spun := if spinning then { d with scanHeld := true, idleSpin := none } else { d with
      scanHeld := true, idleSpin := none, state := .spinUp, cause := .noFault, target := some rpm, integral := 0
      duty := if rpm = 60 then c.dBase60 else if rpm = 90 then c.dBase90 else c.dBase120
      lastTach := none, lastIndex := none, goodRun := 0, slip := none, coast := none, spinUp := some (s.now + 20000000)
      stall := some (s.now + 250000), pulseState := none }
    let lit := if d.lamp = .off then { spun with lamp := .warming, settle := some (s.now + c.settleTenths * 100000) } else spun
    let ready := { lit with
      advance := max 256 (fieldAt r 24 2), fraction := 0
      carriage := if d.carriage = .known 0 ∨ d.homeClosed = true then .known 0 else .homing s.now 0 }
    let y : State := { s with
      pics := s.pics.set k {
        state := .scanning, tag := BitVec.ofNat 32 (fieldAt r 16 4), ioc := ioc, samples := S, picSamples := S - 32
        stride := 4 * ((S - 32 + 3) / 4) + 4, lines := fieldAt r 22 2, mark := 0, rpm := rpm, cause := .noCause
        refs := 1 + live.length, collisionDrops := 0, alteredWrites := 0, heldLines := 0, checkErrors := 0 }
      drum := ready
      pipe := { s.pipe with
        state := .starting, scanId := some id, pic := k, rpm := rpm, lines := fieldAt r 22 2, samples := S, picSamples := S - 32
        next := 0, held := none, faultRun := 0, hold := none, rev := none
        candidates := Vector.ofFn fun p => if (byteAt r 14).testBit p.val then some false else none
        bandLens := Vector.replicate 4 none, lampReady := false, homed := decide (ready.carriage = .known 0)
        startLimit := if spun.state = .locked then .running (s.now + 60000000) else .notStarted } }
    let giveWay (p : PortNo) (z : State) : State := match z.ports[p].active with
      | some b => if z.ports[p].queue.length < 8
        then { z with ports := z.ports.set p { z.ports[p] with
          queue := insertBumped { b.job with bumped := true } z.ports[p].queue, active := none } }
        else compose (slipOfJob z p b.job) { z with ports := z.ports.set p { z.ports[p] with active := none } }
      | none => z
    let begun := live.foldl (fun z p => activate p {
      id := id, pic := k, dest := bytesAt r (28 + 16 * p.val) 8, prio := byteAt r (41 + 16 * p.val)
      caption := h.captions.getD p.val [], liveOrigin := true, bumped := false } true (giveWay p z)) y
    dispatchScan h id s = { begun with composer := { begun.composer with openJobs := begun.composer.openJobs + live.length } }

/-- R28, R96, R98, R100, R101, R102, R145, R163: a SEND job takes a reference, stands in its port's queue after every entry of its
priority and before those below, and the port checks for preemption and selects. The check sets the preempt request, or bumps a job
whose session has not gone beyond CALLING: that job stands, marked bumped, before every entry of its priority, and the line is
released. The items of the bumped session that wait for room are discarded (log 14). The reference taken is reported to the Status
Writer there and then (R23, log 16). R101's table has no row for IDLE, where a port stands whose active job waits for a blocking slip:
the check takes no action there (log 44). -/
def Obligations.SendJobsAreDispatched : Prop :=
  (∀ (h : Hand) (id : Nat) (s : State),
    let r := h.record
    let p : PortNo := Fin.ofNat 4 (byteAt r 13)
    let j : Job := {
      id := id, pic := recSlot r, dest := bytesAt r 16 8, prio := byteAt r 14, caption := h.captions.getD 0 [], liveOrigin := false
      bumped := false }
    let q := s.ports[p]
    dispatchSend h id s = service p (select p (checkPreempt p j { s with
      pics := s.pics.set j.pic { s.pics[j.pic] with refs := s.pics[j.pic].refs + 1 }
      status := { s.status with changed := s.status.changed.set (4 + j.pic.val) true }
      composer := { s.composer with openJobs := s.composer.openJobs + 1 }
      ports := s.ports.set p { q with queue := insertSend j q.queue } }))) ∧
  (∀ (j : Job) (l : List Job), (l.Pairwise fun a b => b.prio ≤ a.prio) →
    insertSend j l = (l.filter fun e => j.prio ≤ e.prio) ++ j :: l.filter (fun e => e.prio < j.prio) ∧
    insertBumped j l = (l.filter fun e => j.prio < e.prio) ++ j :: l.filter (fun e => e.prio ≤ j.prio)) ∧
  (∀ (s : State) (p : PortNo) (c : Job), s.ports[p].active = none → checkPreempt p c s = s) ∧
  ∀ (s : State) (p : PortNo) (c : Job) (b : ActiveJob), s.ports[p].active = some b →
    let q := s.ports[p]
    let x := q.session
    let outranks := b.job.prio < c.prio ∧ s.cfg.ports[p].preempt = true ∧ q.contexts.length < 2 ∧ q.hold = false ∧ q.preempt = false
    let bumps := b.begun = true ∧ x.state ∈ [.seizing, .calling]
    let unpin (w : Way) : Way := if composing q = some (w.pic, w.line) then w else { w with pins := w.pins.set p false }
    (¬outranks → checkPreempt p c s = s) ∧
    (outranks → bumps → checkPreempt p c s = releaseLine p true { s with
      store := { s.store with sets := s.store.sets.map fun d => { d with way0 := unpin d.way0, way1 := unpin d.way1 } }
      pipe := match x.live with
        | .member => reportDone p s.pipe
        | .candidate => reportWithdrawn p s.pipe
        | .none => s.pipe
      ports := s.ports.set p { q with
        wait := none, lineTimes := if x.live = .member then [] else q.lineTimes
        queue := insertBumped { b.job with bumped := true } (q.queue.erase c), active := some { job := c, begun := false }
        session := { x with
          live := .none, state := .releasing, outcome := none, timer := none, wishes := [], ending := .bumped
          counts := { x.counts with leftLive := x.counts.leftLive || decide (x.live = .member) } } } }) ∧
    (outranks → x.state ∈ [.sending, .awaitVerdict, .waiting, .quiet, .standby] →
      checkPreempt p c s = { s with ports := s.ports.set p { q with preempt := true } }) ∧
    (outranks → ¬bumps → x.state ∉ [.sending, .awaitVerdict, .waiting, .quiet, .standby] → checkPreempt p c s = s)

/-- R27, R31, R72, R107, R108, R145: what an abort does on a port: the queued jobs it names leave the queue and are composed as
ABORTED-UNSENT; an active job it names whose session waits to begin is composed ABORTED-UNSENT and is a live candidate no more (log
28); one whose session has begun ends ABORTED unless its outcome is decided, and one that is parting or releasing keeps its way with
ABORTED pending (log 31); the saved contexts it names leave, oldest first; then the port selects (PortsSelect). An ABORT-PICTURE first
cuts the picture, if it is SCANNING, and its scan ends. -/
def Obligations.AbortsTakeJobsOut : Prop :=
  (∀ (s : State) (p : PortNo) (target : AbortTarget),
    let q := s.ports[p]
    let named (j : Job) : Bool := match target with | .id n => j.id = n | .picture k => j.pic = k
    let port (v : Port) : State := { s with ports := s.ports.set p v }
    abortPort target p s = select p (abortContexts target p (abortActive target p (abortQueued target p s))) ∧
    abortQueued target p s =
      (q.queue.filter named).foldl (fun z j => compose (slipOfJob z p j) z) (port { q with queue := q.queue.filter fun j => !named j }) ∧
    abortContexts target p s =
      (q.contexts.filter fun c => named c.job).foldl (fun z c => compose (slipOfContext z p c) z)
        (port { q with contexts := q.contexts.filter fun c => !named c.job }) ∧
    (∀ b, q.active = some b →
      let found := named b.job = true ∧ (b.begun = false ∨ q.session.outcome = none)
      (¬found → abortActive target p s = s) ∧
      (found → b.begun = false →
        abortActive target p s = compose (slipOfJob s p b.job)
          { port { q with active := none, preempt := false } with pipe := reportWithdrawn p s.pipe }) ∧
      (found → b.begun = true → q.session.state ∈ [.parting, .releasing] →
        abortActive target p s = port { q with
          preempt := false, session := { q.session with outcome := some { outcome := .aborted } } }) ∧
      (found → b.begun = true → q.session.state ∉ [.parting, .releasing] →
        abortActive target p s = endSession p .aborted 0 (port { q with preempt := false }))) ∧
    (q.active = none → abortActive target p s = s)) ∧
  ∀ (s : State) (k : Fin 16) (cause : CutCause),
    (s.pics[k].state ≠ .scanning → cutPicture k cause s = s) ∧
    (s.pics[k].state = .scanning → cutPicture k cause s = scanEnd k { s with
      pics := s.pics.set k { s.pics[k] with state := .cut, cause := cause, refs := s.pics[k].refs - 1 } })

/-- R30, R42, R44, R72, R105, R106: RELEASE-PICTURE makes a picture EMPTY, drops what is staged, pending or being fetched of it, and
answers alone for an EMPTY one: a way pinned for a frame of an ended session is emptied too, and that frame goes on with the bytes it
has (log 42); a failure held back joins the list if it has room (log 39); HOLD-PORT sets the hold, clears the preempt request and
takes a candidate out, one whose session waits to begin too (log 28); RESUME-PORT clears it, starts the next band of a HELD session,
checks the head of the queue for preemption, and selects. -/
def Obligations.PortAndPictureJobsAreDispatched : Prop :=
  (∀ (h : Hand) (s : State),
    let k := recSlot h.record
    let way (w : Way) : Way :=
      if w.state = .valid ∧ w.pic = k then { w with state := .invalid, pins := Vector.replicate 4 false } else w
    let detached (f : Frame) : Frame := match f with
      | .picture pic line tones time bytes => .picture (if pic = some k then none else pic) line tones time bytes
      | f => f
    let held := if s.store.heldFailure.any fun f => f.pic = k then none else s.store.heldFailure
    let list := s.trailers.filter fun f => f.pic ≠ k
    let y : State := { s with
      pics := s.pics.set k {}
      store := { s.store with
        sets := s.store.sets.map fun c => { c with way0 := way c.way0, way1 := way c.way1 }, heldFailure := held }
      trailers := list
      ports := s.ports.map fun v => { v with
        link := { v.link with transfer := v.link.transfer.map fun x => { x with frame := detached x.frame } } }
      unit := match s.unit with
        | some (.lineFetch p pic line w la stride samples dropped) =>
          some (.lineFetch p pic line w la stride samples (dropped || decide (pic = k)))
        | u => u }
    (s.pics[k].state = .empty → dispatchReleasePicture h s = s) ∧
    (s.pics[k].state ≠ .empty → held = none ∨ 8 ≤ list.length → dispatchReleasePicture h s = y) ∧
    ∀ f, s.pics[k].state ≠ .empty → held = some f → list.length < 8 →
      dispatchReleasePicture h s = { y with
        store := { y.store with heldFailure := none }
        trailers := if ∃ g ∈ list, g.trailer = f.trailer then list else list ++ [f] }) ∧
  ∀ (h : Hand) (s : State),
    let p : PortNo := Fin.ofNat 4 (byteAt h.record 12)
    let q := s.ports[p]
    let port (v : Port) : State := { s with ports := s.ports.set p v }
    let out := { port { q with hold := true, preempt := false, session := { q.session with live := .none } } with
      pipe := reportWithdrawn p s.pipe }
    let open' := port { q with hold := false }
    let resumed := if q.session.state = .held then bandStart p open' else open'
    (q.hold = true → dispatchHoldPort h s = s) ∧
    (q.hold = false → q.session.live ≠ .candidate → dispatchHoldPort h s =
      { port { q with hold := true, preempt := false } with
        pipe := if q.active.any fun b => !b.begun then reportWithdrawn p s.pipe else s.pipe }) ∧
    (q.hold = false → q.session.live = .candidate → dispatchHoldPort h s =
      service p (if q.session.state = .standby then bandStart p out else out)) ∧
    (q.hold = false → dispatchResumePort h s = s) ∧
    (q.hold = true → q.queue = [] → dispatchResumePort h s = service p (select p resumed)) ∧
    ∀ j rest, q.hold = true → q.queue = j :: rest →
      dispatchResumePort h s = service p (select p (checkPreempt p j resumed))

/-! ### Setup and the desk clock -/

/-- R97, R164, R165, R167, R168, R169, R170, R171, R174: the end of a setup part read: the part is taken in, clamped; a check that
fails ends the load with its result; else the next part is read, and after the eighth the block is adopted in one step and answered. A
part outside 1 to 8 is never read. R168, R182: then where each part stands in the block, what a field of two or four bytes is, and
which value each field is taken in as, and whether that was an adjustment (log 26). -/
def Obligations.SetupLoads : Prop :=
  (∀ (t : Nat) (s : State) (part : Nat), s.inReset = false → s.unit = some (.setupPart part) → 1 ≤ part → part ≤ 8 →
    let a := advance t s
    let span := partSpan part
    let l := takePart s.loader part (readBytes s.mem (0x3F80000 + s.strap.toNat * 0x10000 + span.1) span.2)
    let c := l.block
    let on (phase : LoaderPhase) : State := { a with unit := none, loader := { l with phase := phase } }
    let answers (y : State) : Prop := exec (.setupPartReadEnd t) s = .next (noteChanges a y)
    let old := s.cfg
    let base (x : Setup) (kind : WindowKind) : Option Nat := (windowOf x.windows kind).map (·.base)
    let ringMoves := base c .slips ≠ base old .slips ∨ c.ringCapacity ≠ old.ringCapacity
    (∀ word, partChecks s c part = some word → answers (on (.answering word))) ∧
    (partChecks s c part = none → part < 8 → answers (on (.reading (part + 1)))) ∧
    (∀ word, partChecks s c part = none → part = 8 → adoptionCheck s c = some word → answers (on (.answering word))) ∧
    (partChecks s c part = none → part = 8 → adoptionCheck s c = none →
      let y := judgeWriter { a with
        unit := none, cfg := c, adopted := true, notice := { s.notice with enables := l.enables }
        clock := { seconds := l.clock, micros := 0 }
        intake := { s.intake with
          queue := if base c .jobs = none then [] else s.intake.queue.filter fun j => j < c.jobSlots }
        composer := { s.composer with
          nextSerial := if s.composer.nextSerial = some 0 then some l.serial else s.composer.nextSerial
          index := if ringMoves then 0 else s.composer.index
          filled := if ringMoves then List.replicate c.ringCapacity false else s.composer.filled }
        status := { s.status with
          changed := if windowOf c.windows .status ≠ none ∧ windowOf c.windows .status ≠ windowOf old.windows .status
            then Vector.replicate 27 true else s.status.changed } }
      answers { y with loader := { l with phase := .answering [1, if l.adjusted then 1 else 0, 0, 0] } })) ∧
  -- where a part stands in the block, and what a field of a record is
  ((List.range' 1 8).map partSpan =
    [(0x10, 16), (0x20, 96), (0x80, 128), (0x100, 64), (0x140, 32), (0x160, 32), (0x180, 32), (0x1A0, 32)]) ∧
  (∀ (r : List Byte) (i : Nat), fieldAt r i 2 = byteAt r i + 256 * byteAt r (i + 1) ∧
    fieldAt r i 4 = byteAt r i + 256 * byteAt r (i + 1) + 65536 * byteAt r (i + 2) + 16777216 * byteAt r (i + 3)) ∧
  -- what each part is taken in as
  ∀ (l : Loader) (r : List Byte),
    let near (lo hi x : Nat) : Nat := max lo (min x hi)
    let out (lo hi x : Nat) : Bool := decide (x < lo) || decide (hi < x)
    (takePart l 1 r = { l with
      block := { l.block with jobSlots := near 8 128 (fieldAt r 2 2), ringCapacity := near 8 256 (fieldAt r 4 2) }
      enables := BitVec.ofNat 9 (fieldAt r 0 2), serial := fieldAt r 8 4, clock := BitVec.ofNat 32 (fieldAt r 12 4)
      adjusted := l.adjusted || out 8 128 (fieldAt r 2 2) || out 8 256 (fieldAt r 4 2) }) ∧
    (takePart l 2 r = { l with
      block := { l.block with windows := Vector.ofFn fun e : Fin 8 => {
        kind := match byteAt r (12 * e.val) with | 1 => .picture | 2 => .jobs | 3 => .slips | 4 => .status | _ => .off
        base := fieldAt r (12 * e.val + 4) 4 % 2 ^ 26, size := fieldAt r (12 * e.val + 8) 4 } }
      adjusted := l.adjusted || decide (∃ e : Fin 8, 4 < byteAt r (12 * e.val)) }) ∧
    (takePart l 3 r = { l with block := { l.block with
      slots := Vector.ofFn fun i : Fin 16 => { base := fieldAt r (8 * i.val) 4 % 2 ^ 26, size := fieldAt r (8 * i.val + 4) 4 } } }) ∧
    (takePart l 4 r = { l with
      block := { l.block with drum := {
        dBase60 := min (fieldAt r 0 2) 1023, dBase90 := min (fieldAt r 2 2) 1023, dBase120 := min (fieldAt r 4 2) 1023
        kp := byteAt r 6, ki := byteAt r 7, lockPpm := near 20 500 (fieldAt r 8 2), idleSpin := min (fieldAt r 10 2) 600
        spanFloor := near 64 2048 (fieldAt r 12 2), settleTenths := near 5 80 (byteAt r 14), holdLimit := near 1 8 (byteAt r 15)
        curve := (List.range 17).map fun i => byteAt r (16 + i) } }
      adjusted := l.adjusted || decide (1023 < fieldAt r 0 2 ∨ 1023 < fieldAt r 2 2 ∨ 1023 < fieldAt r 4 2 ∨
        out 20 500 (fieldAt r 8 2) = true ∨ 600 < fieldAt r 10 2 ∨ out 64 2048 (fieldAt r 12 2) = true ∨
        out 5 80 (byteAt r 14) = true ∨ out 1 8 (byteAt r 15) = true) }) ∧
    ∀ p : PortNo,
      let am := 1 ≤ byteAt r 1
      let tone (x : Nat) : Nat := if am then min x 1023 else near 1000 3000 x
      let band := byteAt r 6
      takePart l (5 + p.val) r = { l with
        block := { l.block with ports := l.block.ports.set p {
          enabled := decide (1 ≤ byteAt r 0), am := decide am, white := tone (fieldAt r 2 2), black := tone (fieldAt r 4 2)
          bandLength := if band ≤ 24 then 16 else if band ≤ 48 then 32 else 64, phasingLines := near 10 60 (byteAt r 7)
          verdictTime := near 1 10 (byteAt r 8), waitTime := near 5 120 (byteAt r 9), minDuration := near 10 200 (byteAt r 10)
          crc := decide (1 ≤ byteAt r 11), sync := min (byteAt r 12) 15, pad := min (byteAt r 13) 15
          preempt := decide (1 ≤ byteAt r 14) } }
        adjusted := l.adjusted || decide (1 < byteAt r 0 ∨ 1 < byteAt r 1 ∨ tone (fieldAt r 2 2) ≠ fieldAt r 2 2 ∨
          tone (fieldAt r 4 2) ≠ fieldAt r 4 2 ∨ band ∉ [16, 32, 64] ∨ out 10 60 (byteAt r 7) = true ∨ out 1 10 (byteAt r 8) = true ∨
          out 5 120 (byteAt r 9) = true ∨ out 10 200 (byteAt r 10) = true ∨ 1 < byteAt r 11 ∨ 15 < byteAt r 12 ∨
          15 < byteAt r 13 ∨ 1 < byteAt r 14) }

/-- R169, R172: the checks after the parts of a setup and at its adoption, in their order, each with its result code and the lowest
entry it refuses; a block that fails none of them goes on. Where the JOBS and the SLIPS window are both too small, entry 0 is named,
which is the model's choice (log 46). R1, R19, R169: second, a block that passes the checks of parts 2 and 3: every window is a power
of two of 4 KiB to 32 MiB, aligned to its size, apart from the setup window and from every other, and no kind is there too often; the
JOBS and SLIPS windows hold their slots; and every slot in use is whole, aligned, large enough, inside one PICTURE window and apart
from every other. -/
def Obligations.CheckedTablesAreSound : Prop :=
  (∀ (s : State) (c : Setup),
    let w := c.windows
    let setup := 0x3F80000 + s.strap.toNat * 0x10000
    let word (code entry : Nat) : Option (List Byte) := some [BitVec.ofNat 8 code, 0, BitVec.ofNat 8 entry, 0]
    let lowest (n : Nat) (bad : Fin n → Prop) (i : Fin n) : Prop := bad i ∧ ∀ j < i, ¬bad j
    let meet (b n b' n' : Nat) : Prop := b < b' + n' ∧ b' < b + n
    let misaligned (i : Fin 8) : Prop :=
      w[i].kind ≠ .off ∧ ¬((∃ n, 12 ≤ n ∧ n ≤ 25 ∧ w[i].size = 2 ^ n) ∧ w[i].base % w[i].size = 0)
    let overlaps (i : Fin 8) : Prop := w[i].kind ≠ .off ∧ (meet w[i].base w[i].size setup 0x10000 ∨
      ∃ j : Fin 8, j ≠ i ∧ w[j].kind ≠ .off ∧ meet w[i].base w[i].size w[j].base w[j].size)
    let beyond (i : Fin 8) : Prop := w[i].kind ≠ .off ∧
      (if w[i].kind = .picture then 4 else 1) < ((List.finRange 8).filter fun j => decide (j ≤ i ∧ w[j].kind = w[i].kind)).length
    let tablesOk := ∀ i, ¬misaligned i ∧ ¬overlaps i ∧ ¬beyond i
    let jobsBig := ∃ e, windowOf w .jobs = some e ∧ e.size < 128 * c.jobSlots
    let slipsBig := ∃ e, windowOf w .slips = some e ∧ e.size < 64 * c.ringCapacity
    let ring (x : Setup) : Option Nat := (windowOf x.windows .slips).map (·.base)
    let ringInUse := (ring c ≠ ring s.cfg ∨ c.ringCapacity ≠ s.cfg.ringCapacity) ∧
      (true ∈ s.composer.filled ∨ s.composer.pending ≠ [])
    let slotBad (i : Fin 16) : Prop :=
      let e := c.slots[i]
      e.size ≠ 0 ∧ ¬(e.size % 4 = 0 ∧ 59520 ≤ e.size ∧ e.base % 4 = 0 ∧
        (∃ j : Fin 8, w[j].kind = .picture ∧ w[j].base ≤ e.base ∧ e.base + e.size ≤ w[j].base + w[j].size) ∧
        ∀ j : Fin 16, j ≠ i → c.slots[j].size ≠ 0 → ¬meet e.base e.size c.slots[j].base c.slots[j].size)
    let slotInUse (i : Fin 16) : Prop := s.pics[i].state ≠ .empty ∧ c.slots[i] ≠ s.cfg.slots[i]
    let portBusy (p : Fin 4) : Prop := c.ports[p] ≠ s.cfg.ports[p] ∧
      (s.ports[p].session.state ≠ .idle ∨ s.ports[p].queue ≠ [] ∨ s.ports[p].contexts ≠ [])
    -- after part 2
    (∀ i, lowest 8 misaligned i → partChecks s c 2 = word 3 i) ∧
    (∀ i, (∀ j, ¬misaligned j) → lowest 8 overlaps i → partChecks s c 2 = word 2 i) ∧
    (∀ i, (∀ j, ¬misaligned j ∧ ¬overlaps j) → lowest 8 beyond i → partChecks s c 2 = word 4 i) ∧
    (tablesOk → jobsBig → partChecks s c 2 = word 7 0) ∧
    (tablesOk → ¬jobsBig → slipsBig → partChecks s c 2 = word 7 1) ∧
    (tablesOk → ¬jobsBig → ¬slipsBig → ringInUse → partChecks s c 2 = word 8 0) ∧
    (tablesOk → ¬jobsBig → ¬slipsBig → ¬ringInUse → partChecks s c 2 = none) ∧
    -- after part 3
    (∀ i, lowest 16 slotBad i → partChecks s c 3 = word 5 i) ∧
    (∀ i, (∀ j, ¬slotBad j) → lowest 16 slotInUse i → partChecks s c 3 = word 6 i) ∧
    ((∀ i, ¬slotBad i ∧ ¬slotInUse i) → partChecks s c 3 = none) ∧
    -- after part 5 + p; nothing is judged after parts 1 and 4
    (∀ p : Fin 4, (portBusy p → partChecks s c (5 + p) = word 9 p) ∧ (¬portBusy p → partChecks s c (5 + p) = none)) ∧
    (partChecks s c 1 = none ∧ partChecks s c 4 = none) ∧
    -- the adoption check
    (∀ i, lowest 16 slotInUse i → adoptionCheck s c = word 6 i) ∧
    ((∀ i, ¬slotInUse i) → ringInUse → adoptionCheck s c = word 8 0) ∧
    (∀ p, (∀ i, ¬slotInUse i) → ¬ringInUse → lowest 4 portBusy p → adoptionCheck s c = word 9 p) ∧
    ((∀ i, ¬slotInUse i) → ¬ringInUse → (∀ p, ¬portBusy p) → adoptionCheck s c = none)) ∧
  ∀ (s : State) (c : Setup), partChecks s c 2 = none → partChecks s c 3 = none →
    let w := c.windows
    let setup := 0x3F80000 + s.strap.toNat * 0x10000
    (∀ i : Fin 8, w[i].kind ≠ .off →
      (∃ n, 12 ≤ n ∧ n ≤ 25 ∧ w[i].size = 2 ^ n) ∧ w[i].base % w[i].size = 0 ∧
      (w[i].base + w[i].size ≤ setup ∨ setup + 0x10000 ≤ w[i].base) ∧
      ∀ j : Fin 8, j ≠ i → w[j].kind ≠ .off → w[i].base + w[i].size ≤ w[j].base ∨ w[j].base + w[j].size ≤ w[i].base) ∧
    (∀ kind : WindowKind, kind ≠ .off →
      ((List.finRange 8).filter fun i => decide (w[i].kind = kind)).length ≤ if kind = .picture then 4 else 1) ∧
    (∀ i : Fin 8, (w[i].kind = .jobs → 128 * c.jobSlots ≤ w[i].size) ∧ (w[i].kind = .slips → 64 * c.ringCapacity ≤ w[i].size)) ∧
    ∀ k : Fin 16, c.slots[k].size ≠ 0 →
      let e := c.slots[k]
      e.size % 4 = 0 ∧ 59520 ≤ e.size ∧ e.base % 4 = 0 ∧
      (∃ i : Fin 8, w[i].kind = .picture ∧ w[i].base ≤ e.base ∧ e.base + e.size ≤ w[i].base + w[i].size) ∧
      ∀ j : Fin 16, j ≠ k → c.slots[j].size ≠ 0 →
        e.base + e.size ≤ c.slots[j].base ∨ c.slots[j].base + c.slots[j].size ≤ e.base

/-- R171, R177: the desk clock's second is up: the seconds go on, wrapping, and a second leaves the µs count, also while RESET is low;
a second that is not up is no event. That it counts through a power-on reset as through a warm one is log 22, and that the µs that
have passed are added at each command is log 1. -/
def Obligations.DeskClockCounts : Prop :=
  ∀ (t : Nat) (s : State),
    let a := advance t s
    let y := { a with clock := { seconds := a.clock.seconds + 1, micros := a.clock.micros - 1000000 } }
    a.clock.seconds = s.clock.seconds ∧ a.clock.micros = s.clock.micros + (t - s.now) ∧
    (1000000 ≤ a.clock.micros → s.inReset = false → exec (.deskClockSecond t) s = .next (noteChanges a y)) ∧
    (1000000 ≤ a.clock.micros → s.inReset = true → exec (.deskClockSecond t) s = .next y) ∧
    (a.clock.micros < 1000000 → exec (.deskClockSecond t) s = .next a)

/-! ### The drum head -/

/-- R52, R53: a tach pulse restarts the stall timer and runs the speed loop on the tooth period; in STOPPING it restarts the coast
timer; in STOPPED and FAULT it is ignored, as an index pulse is in STOPPED, STOPPING and FAULT. -/
def Obligations.TachPulsesRunTheSpeedLoop : Prop :=
  ∀ (t : Nat) (s : State), s.inReset = false →
    let a := advance t s
    let now := max s.now t
    let d := s.drum
    let c := s.cfg.drum
    let drum (x : Drum) : Prop := exec (.tachPulse t) s = .next (noteChanges a { a with drum := x })
    (d.state ∈ [.spinUp, .locked, .slipped] →
      (d.lastTach = none → drum { d with stall := some (now + 250000), lastTach := some now }) ∧
      ∀ t0 rpm, d.lastTach = some t0 → d.target = some rpm → rpm ∈ [60, 90, 120] →
        let p : Int := ((now - t0 : Nat) : Int)
        let T : Int := if rpm = 60 then 1000000 else if rpm = 90 then 666667 else 500000
        let base := if rpm = 60 then c.dBase60 else if rpm = 90 then c.dBase90 else c.dBase120
        let e := 120 * p - T
        let I := max (-1048576) (min (d.integral + e) 1048575)
        let D := max 0 (min ((base : Int) + ((c.kp : Int) * e + (c.ki : Int) * I) / 4096) 1023)
        drum { d with stall := some (now + 250000), lastTach := some now, integral := I, duty := D.toNat }) ∧
    (d.state = .stopping → drum { d with coast := some (now + 250000) }) ∧
    (d.state = .stopped ∨ d.state = .fault → exec (.tachPulse t) s = .next a) ∧
    (d.state = .stopped ∨ d.state = .stopping ∨ d.state = .fault → exec (.indexPulse t) s = .next a)

/-- R54, R58, R59, R67, R74, R85: an index pulse in a loop state: the lock decision, the lock change given to the pipeline before the
revolution event, and the revolution event while a scan is held (RevolutionsAreJudged). The first pulse of a spin measures nothing:
its event carries the nominal period (log 25). T_meas stops at the greatest value of 32 bits (log 24), and a start limit timer that
has run does not start again in its scan (log 27). Ports are told of a slip in order (log 20). -/
def Obligations.IndexPulsesDecideLock : Prop :=
  (∀ (t : Nat) (s : State), s.inReset = false → s.drum.state ∈ [.spinUp, .locked, .slipped] →
    let a := advance t s
    let now := max s.now t
    let after := indexDecision s.cfg.drum now s.drum
    let y := { a with drum := after }
    let z := if after.state = s.drum.state then y else lockChange after.state y
    let period := match s.drum.lastIndex with
      | some t0 => min 4294967295 (now - t0)
      | none => (2 * 60000000 + s.drum.target.getD 0) / (2 * s.drum.target.getD 0)
    (s.drum.scanHeld = false → exec (.indexPulse t) s = .next (noteChanges a z)) ∧
    (s.drum.scanHeld = true → exec (.indexPulse t) s =
      .next (noteChanges a (revolution s.drum.pulseState (some after.state) now period z)))) ∧
  (∀ (c : DrumSettings) (now : Nat) (d : Drum),
    (d.lastIndex = none → indexDecision c now d = { d with lastIndex := some now, pulseState := some d.state }) ∧
    ∀ t0 rpm, d.lastIndex = some t0 → d.target = some rpm → rpm ∈ [60, 90, 120] →
      let period := min 4294967295 (now - t0)
      let T := if rpm = 60 then 1000000 else if rpm = 90 then 666667 else 500000
      let tol := T * c.lockPpm / 1000000
      let dev := ((period : Int) - T).natAbs
      let m := { d with lastIndex := some now, tMeas := period }
      let locked := { m with state := .locked, goodRun := 3, spinUp := none, slip := none, pulseState := some .locked }
      (d.state = .locked → dev ≤ 2 * tol → indexDecision c now d = { m with pulseState := some .locked }) ∧
      (d.state = .locked → 2 * tol < dev → indexDecision c now d = { m with
        state := .slipped, goodRun := 0, slip := some (now + 10000000), idleSpin := none, pulseState := some .slipped }) ∧
      (d.state = .spinUp ∨ d.state = .slipped →
        (tol < dev → indexDecision c now d = { m with goodRun := 0, pulseState := some d.state }) ∧
        (dev ≤ tol → d.goodRun < 2 → indexDecision c now d = { m with goodRun := d.goodRun + 1, pulseState := some d.state }) ∧
        (dev ≤ tol → 2 ≤ d.goodRun →
          (d.scanHeld = true → indexDecision c now d = locked) ∧
          (d.scanHeld = false → c.idleSpin ≠ 0 →
            indexDecision c now d = { locked with idleSpin := some (now + c.idleSpin * 1000000) }) ∧
          (d.scanHeld = false → c.idleSpin = 0 →
            indexDecision c now d = { enterStopping now locked with pulseState := some .stopping })))) ∧
  ∀ (s : State),
    (s.pipe.state = .starting → s.pipe.startLimit = .notStarted →
      lockChange .locked s = { s with pipe := { s.pipe with startLimit := .running (s.now + 60000000) } }) ∧
    (s.pipe.state ≠ .starting ∨ s.pipe.startLimit ≠ .notStarted → lockChange .locked s = s) ∧
    (s.pipe.state = .running → lockChange .slipped s =
      forPorts (fun p x => if x.ports[p].session.live = .member then orderOut p x else x)
        { s with pipe := { s.pipe with hold := none } }) ∧
    (s.pipe.state ≠ .running → lockChange .slipped s = s)

/-- R66, R73, R75, R76, R77, R78, R79, R80, R81, R83, R84: a revolution event. In STARTING it starts the scan when lock, lamp,
carriage and candidates are ready. In RUNNING it judges the revolution that ended: one that was open, began and ended in LOCKED and is
complete is accepted on its own references if they are usable, else it is a reference fault, which cuts the picture at 8 in a row or
is accepted on the held references; then the waits of the live hold advance and the next revolution begins. Ports are told in order
(log 20). A request that is unanswered when a revolution begins stands, and its answer sets no code (log 15). -/
def Obligations.RevolutionsAreJudged : Prop :=
  ∀ (s : State) (first last : Option DrumState) (t0 v : Nat),
    let q := s.pipe
    -- the next revolution begins in the pipeline `x`
    let begun (x : Pipeline) : Pipeline := { x with
      rev := some {
        start := t0, period := v, codes := []
        opened := decide (x.next < x.lines) && (x.buffers[0].isNone || x.buffers[1].isNone) && x.hold.isNone }
      request := x.request.map fun r => { r with current := false } }
    let fit := last = some .locked ∧ q.lampReady = true ∧ q.homed = true ∧ ∀ p : PortNo, q.candidates[p] ≠ some false
    let started := forPorts joinLive { s with pipe := { q with
      state := .running, startLimit := .done, candidates := Vector.replicate 4 none
      bandLens := Vector.ofFn fun p => if q.candidates[p] = none then none else some s.cfg.ports[p].bandLength } }
    -- the waits of the live hold advance
    let waited (x : State) : State := match x.pipe.hold with
      | none => x
      | some l =>
        let l' := l.map fun a => { a with count := a.count.map (· + 1) }
        let out (a : Awaited) : Bool := a.count.any fun n => x.cfg.drum.holdLimit ≤ n
        (l'.filter out).foldl (fun y a => orderOut a.port y) { x with pipe := { x.pipe with
          hold := if ∀ a ∈ l', out a = true then none else some (l'.filter fun a => !out a) } }
    let goes (x : State) : State :=
      if x.pipe.state = .running then { waited x with pipe := begun (waited x).pipe } else x
    (q.state = .idle → revolution first last t0 v s = s) ∧
    (q.state = .starting → ¬fit → revolution first last t0 v s = s) ∧
    (q.state = .starting → fit → revolution first last t0 v s = { started with pipe := begun started.pipe }) ∧
    (q.state = .running → q.rev = none → revolution first last t0 v s = goes s) ∧
    ∀ r, q.state = .running → q.rev = some r →
      let mean (i : Nat) : Nat := ((List.range 8).map fun k => ((r.codes.getD (i + k) none).getD 0).toNat).sum / 8
      let W := mean 2
      let B := mean 14
      let complete := r.codes.length = q.samples ∧ ∀ x ∈ r.codes, x ≠ none
      let counted := { s with pipe := { q with faultRun := q.faultRun + 1 } }
      (¬(r.opened = true ∧ first = some .locked ∧ last = some .locked ∧ complete) → revolution first last t0 v s = goes s) ∧
      (r.opened = true → first = some .locked → last = some .locked → complete →
        (B + s.cfg.drum.spanFloor ≤ W → revolution first last t0 v s = goes (acceptLine (W, B) false t0 v r s)) ∧
        (W < B + s.cfg.drum.spanFloor →
          (7 ≤ q.faultRun → revolution first last t0 v s = goes (cutPicture q.pic .referenceLost counted)) ∧
          (q.faultRun < 7 → q.held = none → revolution first last t0 v s = goes counted) ∧
          (∀ wb, q.faultRun < 7 → q.held = some wb →
            revolution first last t0 v s = goes (acceptLine wb true t0 v r counted))))

/-- R66, R81, R83: the acceptance of a line: its entry stands in a FREE buffer, buffer 0 if both are, the next line is due, the
references of a line that used its own are held, the carriage advances, and the ports that are members and whose band the line ends
are awaited, unless it is the last line. -/
def Obligations.LinesAreAccepted : Prop :=
  ∀ (s : State) (wb : Nat × Nat) (heldRef : Bool) (t0 v : Nat) (r : Revolution), bufferFree s.pipe = true →
    let q := s.pipe
    let n := q.next
    let d := s.drum
    let b : Fin 2 := if q.buffers[0] = none then 0 else 1
    let e : LineEntry := {
      scanId := q.scanId.getD 0, pic := q.pic, line := n, bytes := mapLine s.cfg.drum.curve wb q.picSamples r.codes
      heldRef := heldRef, lineTime := v }
    let sum := d.fraction + d.advance
    let k := sum / 256
    let ends (p : PortNo) : Bool :=
      decide (s.ports[p].session.live = .member) && q.bandLens[p].any fun len => (n + 1) % len = 0
    let members : List Awaited := ((List.finRange 4).filter ends).map fun p => { port := p, count := none }
    acceptLine wb heldRef t0 v r s = { s with
      drum := match d.carriage with
        | .known _ => { d with
          fraction := sum % 256
          steps := d.steps ++ (List.range k).map fun i => t0 + v * (24 * k + 8 * i) / (q.samples * k) }
        | _ => d
      pipe := { q with
        next := n + 1, buffers := q.buffers.set b (some e)
        older := if b = 0 ∧ q.buffers[1] ≠ none then 1 else 0
        held := if heldRef then q.held else some wb
        faultRun := if heldRef then q.faultRun else 0
        hold := if n + 1 < q.lines then (if members = [] then none else some members) else q.hold } }

/-- R79, R80: the density bytes of a line from its codes, its references W and B, and the tone curve T. -/
def Obligations.DensitiesFollowTheToneCurve : Prop :=
  ∀ (T : List Nat) (W B P q : Nat) (codes : List (Option (BitVec 12))) (a : BitVec 12),
    T.length = 17 → (∀ x ∈ T, x ≤ 255) → W ≤ 4095 → B < W → q < P → codes[32 + q]? = some (some a) →
    let r := if a.toNat ≤ B then 0 else if W ≤ a.toNat then 4095 else (a.toNat - B) * 4096 / (W - B)
    let i := r / 256
    let f := r % 256
    r ≤ 4095 ∧
    ∃ (t0 t1 : Nat) (v : Byte), T[i]? = some t0 ∧ T[i + 1]? = some t1 ∧
      (mapLine T (W, B) P codes)[q]? = some v ∧
      (v.toNat : Int) = (t0 : Int) + (((t1 : Int) - t0) * f + 128) / 256 ∧
      min t0 t1 ≤ v.toNat ∧ v.toNat ≤ max t0 t1

/-- R119, R120: the tone code of a density byte lies between the port's white and black codes, which the bytes 0 and 255 give; the gap
and the standby line carry white, and a phasing line begins with eight black codes. -/
def Obligations.ToneCodesAreInterpolated : Prop :=
  ∀ (c : Tones) (v : Byte) (line : List Byte) (P : Nat),
    let w := c.white
    let k := c.black
    let d : Int := (k : Int) - w
    let code := toneCode w k v.toNat
    (code : Int) = w + (d * v.toNat + 127) / 255 ∧ min w k ≤ code ∧ code ≤ max w k ∧ (v = 0 → code = w) ∧ (v = 255 → code = k) ∧
    pictureCodes c line = List.replicate 32 w ++ line.map (fun b => toneCode w k b.toNat) ∧
    standbyCodes c P = List.replicate (32 + P) w ∧
    phasingCodes c P = List.replicate 8 k ++ List.replicate (24 + P) w

/-- R75: a sample falls due at its time: its position waits for a code, and a conversion request is made unless one is unanswered; a
code answers the request, and counts if its revolution still runs (log 15). -/
def Obligations.SamplesAreConverted : Prop :=
  ∀ (t : Nat) (s : State), s.inReset = false →
    let a := advance t s
    let now := max s.now t
    let q := s.pipe
    let pipe (i : Instr) (x : Pipeline) : Prop := exec i s = .next (noteChanges a { a with pipe := x })
    (∀ r, q.rev = some r → q.state = .running →
      let j := r.codes.length
      let asked := { q with rev := some { r with codes := r.codes ++ [none] } }
      (j < q.samples → r.start + r.period * j / q.samples ≤ now → q.request = none →
        pipe (.conversionRequest t) { asked with request := some { position := j, current := true } }) ∧
      (j < q.samples → r.start + r.period * j / q.samples ≤ now → q.request ≠ none → pipe (.conversionRequest t) asked) ∧
      (q.samples ≤ j ∨ now < r.start + r.period * j / q.samples → exec (.conversionRequest t) s = .next a)) ∧
    (q.rev = none ∨ q.state ≠ .running → exec (.conversionRequest t) s = .next a) ∧
    ∀ code : BitVec 12,
      (q.request = none → exec (.codeReady t code) s = .next a) ∧
      ∀ x, q.request = some x →
        (x.current = false → pipe (.codeReady t code) { q with request := none }) ∧
        (x.current = true → q.rev = none → pipe (.codeReady t code) { q with request := none }) ∧
        ∀ r, x.current = true → q.rev = some r →
          pipe (.codeReady t code) { q with
            request := none, rev := some { r with codes := r.codes.set x.position (some code) } }

/-- R56, R57, R60, R64, R65: what puts the drum in FAULT: the stall, spin-up and slip timers, an opening cover while it is not STOPPED
or FAULT, and the homing limit, 500 µs after the 40,000th step. The motor and the lamp go off, the carriage stops, DRUM is set, and
the picture of a held scan is cut. An opening cover that is open, and a homing limit not reached, are no event (log 2). -/
def Obligations.DrumFaultsAreTaken : Prop :=
  ∀ (t : Nat) (s : State), s.inReset = false →
    let a := advance t s
    let now := max s.now t
    let faulted (cause : FaultCause) (d : Drum) : State :=
      let y := { a with
        drum := { d with
          state := .fault, cause := cause, duty := 0, integral := 0, stall := none, spinUp := none, slip := none, idleSpin := none
          coast := none, goodRun := 0, steps := [], lamp := .off, settle := none
          carriage := match d.carriage with | .homing _ _ => .unknown | c => c }
        notice := { s.notice with flags := s.notice.flags ||| 16 } }
      if d.scanHeld then cutPicture s.pipe.pic .drumFault y else y
    let takes (i : Instr) (y : State) : Prop := exec i s = .next (noteChanges a y)
    let d := s.drum
    (∀ e ≤ now, d.stall = some e → takes (.stallTimerExpiry t) (faulted .stall d)) ∧
    (∀ e ≤ now, d.spinUp = some e → takes (.spinUpTimerExpiry t) (faulted .spinUp d)) ∧
    (∀ e ≤ now, d.slip = some e → takes (.slipTimerExpiry t) (faulted .slip d)) ∧
    (d.coverOpen = false → d.state ∉ [.stopped, .fault] → takes (.coverOpen t) (faulted .cover { d with coverOpen := true })) ∧
    (d.coverOpen = false → d.state ∈ [.stopped, .fault] → takes (.coverOpen t) { a with drum := { d with coverOpen := true } }) ∧
    (d.coverOpen = true → exec (.coverOpen t) s = .next a) ∧
    (∀ since, d.carriage = .homing since 40000 → since + 20000500 ≤ now → takes (.homingLimitExpiry t) (faulted .carriage d)) ∧
    (∀ since n, d.carriage = .homing since n → n ≠ 40000 ∨ now < since + 20000500 → exec (.homingLimitExpiry t) s = .next a)

/-- R58, R59, R60, R62, R63, R65, R66, R68, R74: the events that leave the drum out of FAULT: idle spin and coast timers, a closing
cover, the lamp settle timer, the steps of the carriage and its home switch, and the start limit, which orders the candidates that
have not phased out, in port order (log 20). Once it has expired, the start limit does not start again in its scan (log 27); a step
that falls due while the carriage is not KNOWN moves nothing (log 41). -/
def Obligations.DrumEventsAreTaken : Prop :=
  ∀ (t : Nat) (s : State), s.inReset = false →
    let a := advance t s
    let now := max s.now t
    let d := s.drum
    let q := s.pipe
    let takes (i : Instr) (y : State) : Prop := exec i s = .next (noteChanges a y)
    let homing : Prop := ∃ since n, d.carriage = .homing since n
    (∀ e ≤ now, d.idleSpin = some e → takes (.idleSpinTimerExpiry t) { a with drum := { d with
      state := .stopping, duty := 0, integral := 0, stall := none, spinUp := none, slip := none, idleSpin := none, goodRun := 0
      coast := some (now + 250000), steps := [], lamp := .off, settle := none
      carriage := match d.carriage with | .homing _ _ => .unknown | c => c } }) ∧
    (∀ e ≤ now, d.coast = some e → takes (.coastTimerExpiry t)
      { a with drum := { d with state := .stopped, coast := none, lastTach := none, lastIndex := none } }) ∧
    takes (.coverClose t) { a with drum := { d with coverOpen := false } } ∧
    (∀ e ≤ now, d.settle = some e → takes (.settleTimerExpiry t) { a with
      drum := { d with lamp := .ready, settle := none }
      pipe := if q.state = .idle then q else { q with lampReady := true } }) ∧
    (∀ since n, d.carriage = .homing since n → n < 40000 → since + 500 * (n + 1) ≤ now →
      takes (.homingStep t) { a with drum := { d with carriage := .homing since (n + 1) } }) ∧
    (homing → takes (.homeSwitchClose t) { a with
      drum := { d with homeClosed := true, carriage := .known 0 }
      pipe := if q.state = .idle then q else { q with homed := true } }) ∧
    (¬homing → takes (.homeSwitchClose t) { a with drum := { d with homeClosed := true } }) ∧
    takes (.homeSwitchOpen t) { a with drum := { d with homeClosed := false } } ∧
    (∀ e rest n, d.steps = e :: rest → e ≤ now → d.carriage = .known n →
      takes (.carriageStep t) { a with drum := { d with steps := rest, carriage := .known (min 1048576 (n + 1)) } }) ∧
    (∀ e rest, d.steps = e :: rest → e ≤ now → (∀ n, d.carriage ≠ .known n) →
      takes (.carriageStep t) { a with drum := { d with steps := rest } }) ∧
    (∀ e, q.state = .starting → q.startLimit = .running e → e ≤ now →
      takes (.startLimitTimerExpiry t)
        (((List.finRange 4).filter fun p => decide (q.candidates[p] = some false)).foldl (fun x p => orderOut p x)
          { a with pipe := { q with
            startLimit := .done, candidates := q.candidates.map fun c => if c = some false then none else c } })) ∧
    -- a timer that is stopped or not due is no event (log 2)
    (∀ i timer, (i, timer) ∈ [(Instr.stallTimerExpiry t, d.stall), (.spinUpTimerExpiry t, d.spinUp), (.slipTimerExpiry t, d.slip),
        (.idleSpinTimerExpiry t, d.idleSpin), (.coastTimerExpiry t, d.coast), (.settleTimerExpiry t, d.settle)] →
      (∀ e, timer = some e → now < e) → exec i s = .next a)

/-! ### Invariants -/

/-- Every step keeps memory in canonical form. -/
def Obligations.MemoryStaysCanonical : Prop :=
  ∀ s s' : State, MemoryInv s → step s = .next s' → MemoryInv s'

/-- R50, R56-R63: every step keeps the drum's record in order: a timer runs just in the states it belongs to, the duty is 0 outside
the loop states, the cause stands just in FAULT, the good run is 3 just in LOCKED, and the integral is in its range. -/
def Obligations.DrumStaysInOrder : Prop :=
  ∀ s s' : State, drumOk s.drum → step s = .next s' → drumOk s'.drum

/-- R23, R24, R26, R27, R50, R70: every step keeps every picture's record in order, at most one picture SCANNING, and the pipeline and
the drum serving just that one. -/
def Obligations.PicturesAndScanStayInOrder : Prop :=
  ∀ s s' : State, PictureInv s → ScanInv s → step s = .next s' → PictureInv s' ∧ ScanInv s'

/-- R98, R113: every step keeps at most 2 units on each link and at most 8 jobs in each port's queue, highest priority first. -/
def Obligations.LinksAndQueuesStayInBounds : Prop :=
  ∀ s s' : State, LinkInv s → QueueInv s → step s = .next s' → LinkInv s' ∧ QueueInv s'

/-- R55, R87, R125, R128, R154, R168: every step keeps the settings in their ranges and one mark for each slot of the ring. -/
def Obligations.SettingsAndRingStayInRange : Prop :=
  ∀ s s' : State, SettingsInv s → RingInv s → step s = .next s' → SettingsInv s' ∧ RingInv s'

/-- The state after reset satisfies every invariant. -/
def Obligations.ResetSatisfiesTheInvariants : Prop :=
  MemoryInv State.reset ∧ drumOk State.reset.drum ∧ PictureInv State.reset ∧ ScanInv State.reset ∧ LinkInv State.reset ∧
    QueueInv State.reset ∧ SettingsInv State.reset ∧ RingInv State.reset
end

