-- ==== Sys2Proof/Laws/Acts.lean ====
section
/-! SUPPORT. What is around the effect of every command: `act` and `noteChanges`; and what a HEARD report spells: `signalOf`. -/

namespace Sys2Proof.Machine

/-- While RESET is high a command has its effect, and the Status Writer learns of it. -/
theorem act_running (t : Nat) (f : State → State) (s : State) (h : s.inReset = false) :
    act t f s = .next (noteChanges (advance t s) (f (advance t s))) := by
  unfold act
  simp only [show (advance t s).inReset = false from h]
  rfl

/-- An event that changes nothing leaves the changed flags as they are. -/
theorem noteChanges_self (a : State) : noteChanges a a = a := by
  have h : changedAfter a a = a.status.changed := by
    ext i hi
    simp [changedAfter]
  simp only [noteChanges, h]

/-- What `noteChanges` leaves is `b` but for the changed flags. -/
theorem noteChanges_eq (a b : State) :
    noteChanges a b = { b with status := { b.status with changed := (noteChanges a b).status.changed } } := rfl

/-! ### signalOf -/

@[simp] theorem leNat_nil : leNat [] = 0 := rfl
theorem leNat_cons (b : Byte) (l : List Byte) : leNat (b :: l) = b.toNat + 256 * leNat l := rfl

/-- R123, R184: what a report with the code and the data length of READY spells. -/
theorem signalOf_ready (rpm lo hi cap : Byte) : signalOf 1 [rpm, lo, hi, cap] =
    if validRpm rpm.toNat && (cap = 0 || cap = 1) then some (.ready rpm.toNat (leNat [lo, hi]) (cap = 1)) else none := rfl

/-- R123, R184: what a report with the code and the data length of RECEIPT spells. -/
theorem signalOf_receipt (a b c d : Byte) : signalOf 7 [a, b, c, d] =
    if leNat [a, b, c, d] ≤ maxReceipt then some (.receipt (leNat [a, b, c, d])) else none := rfl

/-- R184: the codes and data lengths of the reports that spell a far signal. -/
theorem signalOf_isSome (code : Byte) (data : List Byte) (h : (signalOf code data).isSome) :
    (code.toNat, data.length) ∈ [(1, 4), (2, 0), (3, 0), (4, 0), (5, 0), (6, 0), (7, 4), (8, 0)] := by
  obtain ⟨n, hn⟩ : ∃ n, n = code.toNat := ⟨_, rfl⟩
  unfold signalOf at h
  rw [← hn] at h ⊢
  clear hn
  rcases n with _ | _ | _ | _ | _ | _ | _ | _ | _ | n <;> rcases data with _ | ⟨a, _ | ⟨b, _ | ⟨c, _ | ⟨d, _ | ⟨e, l⟩⟩⟩⟩⟩ <;>
    first | exact absurd h Bool.false_ne_true | simp

end Sys2Proof.Machine
end

