-- ==== Sys2Proof/Laws/State.lean ====
section
/-! SUPPORT. One lemma for each field of the state under each named update, so that no proof unfolds a record update. -/

namespace Sys2Proof.Machine

/-! ### modPort -/

@[simp] theorem modPort_pending (p : PortNo) (f : Port → Port) (s : State) : (modPort p f s).pending = s.pending := rfl
@[simp] theorem modPort_now (p : PortNo) (f : Port → Port) (s : State) : (modPort p f s).now = s.now := rfl
@[simp] theorem modPort_inReset (p : PortNo) (f : Port → Port) (s : State) : (modPort p f s).inReset = s.inReset := rfl
@[simp] theorem modPort_resetCause (p : PortNo) (f : Port → Port) (s : State) : (modPort p f s).resetCause = s.resetCause := rfl
@[simp] theorem modPort_strap (p : PortNo) (f : Port → Port) (s : State) : (modPort p f s).strap = s.strap := rfl
@[simp] theorem modPort_mem (p : PortNo) (f : Port → Port) (s : State) : (modPort p f s).mem = s.mem := rfl
@[simp] theorem modPort_desk (p : PortNo) (f : Port → Port) (s : State) : (modPort p f s).desk = s.desk := rfl
@[simp] theorem modPort_drops (p : PortNo) (f : Port → Port) (s : State) : (modPort p f s).drops = s.drops := rfl
@[simp] theorem modPort_unit (p : PortNo) (f : Port → Port) (s : State) : (modPort p f s).unit = s.unit := rfl
@[simp] theorem modPort_cfg (p : PortNo) (f : Port → Port) (s : State) : (modPort p f s).cfg = s.cfg := rfl
@[simp] theorem modPort_adopted (p : PortNo) (f : Port → Port) (s : State) : (modPort p f s).adopted = s.adopted := rfl
@[simp] theorem modPort_pics (p : PortNo) (f : Port → Port) (s : State) : (modPort p f s).pics = s.pics := rfl
@[simp] theorem modPort_store (p : PortNo) (f : Port → Port) (s : State) : (modPort p f s).store = s.store := rfl
@[simp] theorem modPort_trailers (p : PortNo) (f : Port → Port) (s : State) : (modPort p f s).trailers = s.trailers := rfl
@[simp] theorem modPort_drum (p : PortNo) (f : Port → Port) (s : State) : (modPort p f s).drum = s.drum := rfl
@[simp] theorem modPort_pipe (p : PortNo) (f : Port → Port) (s : State) : (modPort p f s).pipe = s.pipe := rfl
@[simp] theorem modPort_intake (p : PortNo) (f : Port → Port) (s : State) : (modPort p f s).intake = s.intake := rfl
@[simp] theorem modPort_ports (p : PortNo) (f : Port → Port) (s : State) : (modPort p f s).ports = s.ports.set p (f s.ports[p]) := rfl
@[simp] theorem modPort_composer (p : PortNo) (f : Port → Port) (s : State) : (modPort p f s).composer = s.composer := rfl
@[simp] theorem modPort_loader (p : PortNo) (f : Port → Port) (s : State) : (modPort p f s).loader = s.loader := rfl
@[simp] theorem modPort_loadResult (p : PortNo) (f : Port → Port) (s : State) : (modPort p f s).loadResult = s.loadResult := rfl
@[simp] theorem modPort_status (p : PortNo) (f : Port → Port) (s : State) : (modPort p f s).status = s.status := rfl
@[simp] theorem modPort_notice (p : PortNo) (f : Port → Port) (s : State) : (modPort p f s).notice = s.notice := rfl
@[simp] theorem modPort_clock (p : PortNo) (f : Port → Port) (s : State) : (modPort p f s).clock = s.clock := rfl

/-! ### modPic -/

@[simp] theorem modPic_pending (k : Fin 16) (f : PictureRecord → PictureRecord) (s : State) : (modPic k f s).pending = s.pending := rfl
@[simp] theorem modPic_now (k : Fin 16) (f : PictureRecord → PictureRecord) (s : State) : (modPic k f s).now = s.now := rfl
@[simp] theorem modPic_inReset (k : Fin 16) (f : PictureRecord → PictureRecord) (s : State) : (modPic k f s).inReset = s.inReset := rfl
@[simp] theorem modPic_resetCause (k : Fin 16) (f : PictureRecord → PictureRecord) (s : State) : (modPic k f s).resetCause = s.resetCause := rfl
@[simp] theorem modPic_strap (k : Fin 16) (f : PictureRecord → PictureRecord) (s : State) : (modPic k f s).strap = s.strap := rfl
@[simp] theorem modPic_mem (k : Fin 16) (f : PictureRecord → PictureRecord) (s : State) : (modPic k f s).mem = s.mem := rfl
@[simp] theorem modPic_desk (k : Fin 16) (f : PictureRecord → PictureRecord) (s : State) : (modPic k f s).desk = s.desk := rfl
@[simp] theorem modPic_drops (k : Fin 16) (f : PictureRecord → PictureRecord) (s : State) : (modPic k f s).drops = s.drops := rfl
@[simp] theorem modPic_unit (k : Fin 16) (f : PictureRecord → PictureRecord) (s : State) : (modPic k f s).unit = s.unit := rfl
@[simp] theorem modPic_cfg (k : Fin 16) (f : PictureRecord → PictureRecord) (s : State) : (modPic k f s).cfg = s.cfg := rfl
@[simp] theorem modPic_adopted (k : Fin 16) (f : PictureRecord → PictureRecord) (s : State) : (modPic k f s).adopted = s.adopted := rfl
@[simp] theorem modPic_pics (k : Fin 16) (f : PictureRecord → PictureRecord) (s : State) : (modPic k f s).pics = s.pics.set k (f s.pics[k]) := rfl
@[simp] theorem modPic_store (k : Fin 16) (f : PictureRecord → PictureRecord) (s : State) : (modPic k f s).store = s.store := rfl
@[simp] theorem modPic_trailers (k : Fin 16) (f : PictureRecord → PictureRecord) (s : State) : (modPic k f s).trailers = s.trailers := rfl
@[simp] theorem modPic_drum (k : Fin 16) (f : PictureRecord → PictureRecord) (s : State) : (modPic k f s).drum = s.drum := rfl
@[simp] theorem modPic_pipe (k : Fin 16) (f : PictureRecord → PictureRecord) (s : State) : (modPic k f s).pipe = s.pipe := rfl
@[simp] theorem modPic_intake (k : Fin 16) (f : PictureRecord → PictureRecord) (s : State) : (modPic k f s).intake = s.intake := rfl
@[simp] theorem modPic_ports (k : Fin 16) (f : PictureRecord → PictureRecord) (s : State) : (modPic k f s).ports = s.ports := rfl
@[simp] theorem modPic_composer (k : Fin 16) (f : PictureRecord → PictureRecord) (s : State) : (modPic k f s).composer = s.composer := rfl
@[simp] theorem modPic_loader (k : Fin 16) (f : PictureRecord → PictureRecord) (s : State) : (modPic k f s).loader = s.loader := rfl
@[simp] theorem modPic_loadResult (k : Fin 16) (f : PictureRecord → PictureRecord) (s : State) : (modPic k f s).loadResult = s.loadResult := rfl
@[simp] theorem modPic_status (k : Fin 16) (f : PictureRecord → PictureRecord) (s : State) : (modPic k f s).status = s.status := rfl
@[simp] theorem modPic_notice (k : Fin 16) (f : PictureRecord → PictureRecord) (s : State) : (modPic k f s).notice = s.notice := rfl
@[simp] theorem modPic_clock (k : Fin 16) (f : PictureRecord → PictureRecord) (s : State) : (modPic k f s).clock = s.clock := rfl

/-! ### modDrum -/

@[simp] theorem modDrum_pending (f : Drum → Drum) (s : State) : (modDrum f s).pending = s.pending := rfl
@[simp] theorem modDrum_now (f : Drum → Drum) (s : State) : (modDrum f s).now = s.now := rfl
@[simp] theorem modDrum_inReset (f : Drum → Drum) (s : State) : (modDrum f s).inReset = s.inReset := rfl
@[simp] theorem modDrum_resetCause (f : Drum → Drum) (s : State) : (modDrum f s).resetCause = s.resetCause := rfl
@[simp] theorem modDrum_strap (f : Drum → Drum) (s : State) : (modDrum f s).strap = s.strap := rfl
@[simp] theorem modDrum_mem (f : Drum → Drum) (s : State) : (modDrum f s).mem = s.mem := rfl
@[simp] theorem modDrum_desk (f : Drum → Drum) (s : State) : (modDrum f s).desk = s.desk := rfl
@[simp] theorem modDrum_drops (f : Drum → Drum) (s : State) : (modDrum f s).drops = s.drops := rfl
@[simp] theorem modDrum_unit (f : Drum → Drum) (s : State) : (modDrum f s).unit = s.unit := rfl
@[simp] theorem modDrum_cfg (f : Drum → Drum) (s : State) : (modDrum f s).cfg = s.cfg := rfl
@[simp] theorem modDrum_adopted (f : Drum → Drum) (s : State) : (modDrum f s).adopted = s.adopted := rfl
@[simp] theorem modDrum_pics (f : Drum → Drum) (s : State) : (modDrum f s).pics = s.pics := rfl
@[simp] theorem modDrum_store (f : Drum → Drum) (s : State) : (modDrum f s).store = s.store := rfl
@[simp] theorem modDrum_trailers (f : Drum → Drum) (s : State) : (modDrum f s).trailers = s.trailers := rfl
@[simp] theorem modDrum_drum (f : Drum → Drum) (s : State) : (modDrum f s).drum = f s.drum := rfl
@[simp] theorem modDrum_pipe (f : Drum → Drum) (s : State) : (modDrum f s).pipe = s.pipe := rfl
@[simp] theorem modDrum_intake (f : Drum → Drum) (s : State) : (modDrum f s).intake = s.intake := rfl
@[simp] theorem modDrum_ports (f : Drum → Drum) (s : State) : (modDrum f s).ports = s.ports := rfl
@[simp] theorem modDrum_composer (f : Drum → Drum) (s : State) : (modDrum f s).composer = s.composer := rfl
@[simp] theorem modDrum_loader (f : Drum → Drum) (s : State) : (modDrum f s).loader = s.loader := rfl
@[simp] theorem modDrum_loadResult (f : Drum → Drum) (s : State) : (modDrum f s).loadResult = s.loadResult := rfl
@[simp] theorem modDrum_status (f : Drum → Drum) (s : State) : (modDrum f s).status = s.status := rfl
@[simp] theorem modDrum_notice (f : Drum → Drum) (s : State) : (modDrum f s).notice = s.notice := rfl
@[simp] theorem modDrum_clock (f : Drum → Drum) (s : State) : (modDrum f s).clock = s.clock := rfl

/-! ### modPipe -/

@[simp] theorem modPipe_pending (f : Pipeline → Pipeline) (s : State) : (modPipe f s).pending = s.pending := rfl
@[simp] theorem modPipe_now (f : Pipeline → Pipeline) (s : State) : (modPipe f s).now = s.now := rfl
@[simp] theorem modPipe_inReset (f : Pipeline → Pipeline) (s : State) : (modPipe f s).inReset = s.inReset := rfl
@[simp] theorem modPipe_resetCause (f : Pipeline → Pipeline) (s : State) : (modPipe f s).resetCause = s.resetCause := rfl
@[simp] theorem modPipe_strap (f : Pipeline → Pipeline) (s : State) : (modPipe f s).strap = s.strap := rfl
@[simp] theorem modPipe_mem (f : Pipeline → Pipeline) (s : State) : (modPipe f s).mem = s.mem := rfl
@[simp] theorem modPipe_desk (f : Pipeline → Pipeline) (s : State) : (modPipe f s).desk = s.desk := rfl
@[simp] theorem modPipe_drops (f : Pipeline → Pipeline) (s : State) : (modPipe f s).drops = s.drops := rfl
@[simp] theorem modPipe_unit (f : Pipeline → Pipeline) (s : State) : (modPipe f s).unit = s.unit := rfl
@[simp] theorem modPipe_cfg (f : Pipeline → Pipeline) (s : State) : (modPipe f s).cfg = s.cfg := rfl
@[simp] theorem modPipe_adopted (f : Pipeline → Pipeline) (s : State) : (modPipe f s).adopted = s.adopted := rfl
@[simp] theorem modPipe_pics (f : Pipeline → Pipeline) (s : State) : (modPipe f s).pics = s.pics := rfl
@[simp] theorem modPipe_store (f : Pipeline → Pipeline) (s : State) : (modPipe f s).store = s.store := rfl
@[simp] theorem modPipe_trailers (f : Pipeline → Pipeline) (s : State) : (modPipe f s).trailers = s.trailers := rfl
@[simp] theorem modPipe_drum (f : Pipeline → Pipeline) (s : State) : (modPipe f s).drum = s.drum := rfl
@[simp] theorem modPipe_pipe (f : Pipeline → Pipeline) (s : State) : (modPipe f s).pipe = f s.pipe := rfl
@[simp] theorem modPipe_intake (f : Pipeline → Pipeline) (s : State) : (modPipe f s).intake = s.intake := rfl
@[simp] theorem modPipe_ports (f : Pipeline → Pipeline) (s : State) : (modPipe f s).ports = s.ports := rfl
@[simp] theorem modPipe_composer (f : Pipeline → Pipeline) (s : State) : (modPipe f s).composer = s.composer := rfl
@[simp] theorem modPipe_loader (f : Pipeline → Pipeline) (s : State) : (modPipe f s).loader = s.loader := rfl
@[simp] theorem modPipe_loadResult (f : Pipeline → Pipeline) (s : State) : (modPipe f s).loadResult = s.loadResult := rfl
@[simp] theorem modPipe_status (f : Pipeline → Pipeline) (s : State) : (modPipe f s).status = s.status := rfl
@[simp] theorem modPipe_notice (f : Pipeline → Pipeline) (s : State) : (modPipe f s).notice = s.notice := rfl
@[simp] theorem modPipe_clock (f : Pipeline → Pipeline) (s : State) : (modPipe f s).clock = s.clock := rfl

/-! ### modStore -/

@[simp] theorem modStore_pending (f : LineStore → LineStore) (s : State) : (modStore f s).pending = s.pending := rfl
@[simp] theorem modStore_now (f : LineStore → LineStore) (s : State) : (modStore f s).now = s.now := rfl
@[simp] theorem modStore_inReset (f : LineStore → LineStore) (s : State) : (modStore f s).inReset = s.inReset := rfl
@[simp] theorem modStore_resetCause (f : LineStore → LineStore) (s : State) : (modStore f s).resetCause = s.resetCause := rfl
@[simp] theorem modStore_strap (f : LineStore → LineStore) (s : State) : (modStore f s).strap = s.strap := rfl
@[simp] theorem modStore_mem (f : LineStore → LineStore) (s : State) : (modStore f s).mem = s.mem := rfl
@[simp] theorem modStore_desk (f : LineStore → LineStore) (s : State) : (modStore f s).desk = s.desk := rfl
@[simp] theorem modStore_drops (f : LineStore → LineStore) (s : State) : (modStore f s).drops = s.drops := rfl
@[simp] theorem modStore_unit (f : LineStore → LineStore) (s : State) : (modStore f s).unit = s.unit := rfl
@[simp] theorem modStore_cfg (f : LineStore → LineStore) (s : State) : (modStore f s).cfg = s.cfg := rfl
@[simp] theorem modStore_adopted (f : LineStore → LineStore) (s : State) : (modStore f s).adopted = s.adopted := rfl
@[simp] theorem modStore_pics (f : LineStore → LineStore) (s : State) : (modStore f s).pics = s.pics := rfl
@[simp] theorem modStore_store (f : LineStore → LineStore) (s : State) : (modStore f s).store = f s.store := rfl
@[simp] theorem modStore_trailers (f : LineStore → LineStore) (s : State) : (modStore f s).trailers = s.trailers := rfl
@[simp] theorem modStore_drum (f : LineStore → LineStore) (s : State) : (modStore f s).drum = s.drum := rfl
@[simp] theorem modStore_pipe (f : LineStore → LineStore) (s : State) : (modStore f s).pipe = s.pipe := rfl
@[simp] theorem modStore_intake (f : LineStore → LineStore) (s : State) : (modStore f s).intake = s.intake := rfl
@[simp] theorem modStore_ports (f : LineStore → LineStore) (s : State) : (modStore f s).ports = s.ports := rfl
@[simp] theorem modStore_composer (f : LineStore → LineStore) (s : State) : (modStore f s).composer = s.composer := rfl
@[simp] theorem modStore_loader (f : LineStore → LineStore) (s : State) : (modStore f s).loader = s.loader := rfl
@[simp] theorem modStore_loadResult (f : LineStore → LineStore) (s : State) : (modStore f s).loadResult = s.loadResult := rfl
@[simp] theorem modStore_status (f : LineStore → LineStore) (s : State) : (modStore f s).status = s.status := rfl
@[simp] theorem modStore_notice (f : LineStore → LineStore) (s : State) : (modStore f s).notice = s.notice := rfl
@[simp] theorem modStore_clock (f : LineStore → LineStore) (s : State) : (modStore f s).clock = s.clock := rfl

/-! ### raise -/

@[simp] theorem raise_pending (c : Nat) (s : State) : (raise c s).pending = s.pending := rfl
@[simp] theorem raise_now (c : Nat) (s : State) : (raise c s).now = s.now := rfl
@[simp] theorem raise_inReset (c : Nat) (s : State) : (raise c s).inReset = s.inReset := rfl
@[simp] theorem raise_resetCause (c : Nat) (s : State) : (raise c s).resetCause = s.resetCause := rfl
@[simp] theorem raise_strap (c : Nat) (s : State) : (raise c s).strap = s.strap := rfl
@[simp] theorem raise_mem (c : Nat) (s : State) : (raise c s).mem = s.mem := rfl
@[simp] theorem raise_desk (c : Nat) (s : State) : (raise c s).desk = s.desk := rfl
@[simp] theorem raise_drops (c : Nat) (s : State) : (raise c s).drops = s.drops := rfl
@[simp] theorem raise_unit (c : Nat) (s : State) : (raise c s).unit = s.unit := rfl
@[simp] theorem raise_cfg (c : Nat) (s : State) : (raise c s).cfg = s.cfg := rfl
@[simp] theorem raise_adopted (c : Nat) (s : State) : (raise c s).adopted = s.adopted := rfl
@[simp] theorem raise_pics (c : Nat) (s : State) : (raise c s).pics = s.pics := rfl
@[simp] theorem raise_store (c : Nat) (s : State) : (raise c s).store = s.store := rfl
@[simp] theorem raise_trailers (c : Nat) (s : State) : (raise c s).trailers = s.trailers := rfl
@[simp] theorem raise_drum (c : Nat) (s : State) : (raise c s).drum = s.drum := rfl
@[simp] theorem raise_pipe (c : Nat) (s : State) : (raise c s).pipe = s.pipe := rfl
@[simp] theorem raise_intake (c : Nat) (s : State) : (raise c s).intake = s.intake := rfl
@[simp] theorem raise_ports (c : Nat) (s : State) : (raise c s).ports = s.ports := rfl
@[simp] theorem raise_composer (c : Nat) (s : State) : (raise c s).composer = s.composer := rfl
@[simp] theorem raise_loader (c : Nat) (s : State) : (raise c s).loader = s.loader := rfl
@[simp] theorem raise_loadResult (c : Nat) (s : State) : (raise c s).loadResult = s.loadResult := rfl
@[simp] theorem raise_status (c : Nat) (s : State) : (raise c s).status = s.status := rfl
@[simp] theorem raise_notice (c : Nat) (s : State) : (raise c s).notice = { s.notice with flags := s.notice.flags ||| BitVec.twoPow 9 c } := rfl
@[simp] theorem raise_clock (c : Nat) (s : State) : (raise c s).clock = s.clock := rfl

/-! ### reportPicture -/

@[simp] theorem reportPicture_pending (k : Fin 16) (s : State) : (reportPicture k s).pending = s.pending := rfl
@[simp] theorem reportPicture_now (k : Fin 16) (s : State) : (reportPicture k s).now = s.now := rfl
@[simp] theorem reportPicture_inReset (k : Fin 16) (s : State) : (reportPicture k s).inReset = s.inReset := rfl
@[simp] theorem reportPicture_resetCause (k : Fin 16) (s : State) : (reportPicture k s).resetCause = s.resetCause := rfl
@[simp] theorem reportPicture_strap (k : Fin 16) (s : State) : (reportPicture k s).strap = s.strap := rfl
@[simp] theorem reportPicture_mem (k : Fin 16) (s : State) : (reportPicture k s).mem = s.mem := rfl
@[simp] theorem reportPicture_desk (k : Fin 16) (s : State) : (reportPicture k s).desk = s.desk := rfl
@[simp] theorem reportPicture_drops (k : Fin 16) (s : State) : (reportPicture k s).drops = s.drops := rfl
@[simp] theorem reportPicture_unit (k : Fin 16) (s : State) : (reportPicture k s).unit = s.unit := rfl
@[simp] theorem reportPicture_cfg (k : Fin 16) (s : State) : (reportPicture k s).cfg = s.cfg := rfl
@[simp] theorem reportPicture_adopted (k : Fin 16) (s : State) : (reportPicture k s).adopted = s.adopted := rfl
@[simp] theorem reportPicture_pics (k : Fin 16) (s : State) : (reportPicture k s).pics = s.pics := rfl
@[simp] theorem reportPicture_store (k : Fin 16) (s : State) : (reportPicture k s).store = s.store := rfl
@[simp] theorem reportPicture_trailers (k : Fin 16) (s : State) : (reportPicture k s).trailers = s.trailers := rfl
@[simp] theorem reportPicture_drum (k : Fin 16) (s : State) : (reportPicture k s).drum = s.drum := rfl
@[simp] theorem reportPicture_pipe (k : Fin 16) (s : State) : (reportPicture k s).pipe = s.pipe := rfl
@[simp] theorem reportPicture_intake (k : Fin 16) (s : State) : (reportPicture k s).intake = s.intake := rfl
@[simp] theorem reportPicture_ports (k : Fin 16) (s : State) : (reportPicture k s).ports = s.ports := rfl
@[simp] theorem reportPicture_composer (k : Fin 16) (s : State) : (reportPicture k s).composer = s.composer := rfl
@[simp] theorem reportPicture_loader (k : Fin 16) (s : State) : (reportPicture k s).loader = s.loader := rfl
@[simp] theorem reportPicture_loadResult (k : Fin 16) (s : State) : (reportPicture k s).loadResult = s.loadResult := rfl
@[simp] theorem reportPicture_status (k : Fin 16) (s : State) : (reportPicture k s).status = { s.status with changed := s.status.changed.set (4 + k.val) true } := rfl
@[simp] theorem reportPicture_notice (k : Fin 16) (s : State) : (reportPicture k s).notice = s.notice := rfl
@[simp] theorem reportPicture_clock (k : Fin 16) (s : State) : (reportPicture k s).clock = s.clock := rfl

/-! ### advance -/

@[simp] theorem advance_pending (t : Nat) (s : State) : (advance t s).pending = s.pending := rfl
@[simp] theorem advance_now (t : Nat) (s : State) : (advance t s).now = max s.now t := rfl
@[simp] theorem advance_inReset (t : Nat) (s : State) : (advance t s).inReset = s.inReset := rfl
@[simp] theorem advance_resetCause (t : Nat) (s : State) : (advance t s).resetCause = s.resetCause := rfl
@[simp] theorem advance_strap (t : Nat) (s : State) : (advance t s).strap = s.strap := rfl
@[simp] theorem advance_mem (t : Nat) (s : State) : (advance t s).mem = s.mem := rfl
@[simp] theorem advance_desk (t : Nat) (s : State) : (advance t s).desk = s.desk := rfl
@[simp] theorem advance_drops (t : Nat) (s : State) : (advance t s).drops = s.drops := rfl
@[simp] theorem advance_unit (t : Nat) (s : State) : (advance t s).unit = s.unit := rfl
@[simp] theorem advance_cfg (t : Nat) (s : State) : (advance t s).cfg = s.cfg := rfl
@[simp] theorem advance_adopted (t : Nat) (s : State) : (advance t s).adopted = s.adopted := rfl
@[simp] theorem advance_pics (t : Nat) (s : State) : (advance t s).pics = s.pics := rfl
@[simp] theorem advance_store (t : Nat) (s : State) : (advance t s).store = s.store := rfl
@[simp] theorem advance_trailers (t : Nat) (s : State) : (advance t s).trailers = s.trailers := rfl
@[simp] theorem advance_drum (t : Nat) (s : State) : (advance t s).drum = s.drum := rfl
@[simp] theorem advance_pipe (t : Nat) (s : State) : (advance t s).pipe = s.pipe := rfl
@[simp] theorem advance_intake (t : Nat) (s : State) : (advance t s).intake = s.intake := rfl
@[simp] theorem advance_ports (t : Nat) (s : State) : (advance t s).ports = s.ports := rfl
@[simp] theorem advance_composer (t : Nat) (s : State) : (advance t s).composer = s.composer := rfl
@[simp] theorem advance_loader (t : Nat) (s : State) : (advance t s).loader = s.loader := rfl
@[simp] theorem advance_loadResult (t : Nat) (s : State) : (advance t s).loadResult = s.loadResult := rfl
@[simp] theorem advance_status (t : Nat) (s : State) : (advance t s).status = s.status := rfl
@[simp] theorem advance_notice (t : Nat) (s : State) : (advance t s).notice = s.notice := rfl
@[simp] theorem advance_clock (t : Nat) (s : State) : (advance t s).clock = { s.clock with micros := s.clock.micros + (max s.now t - s.now) } := rfl

/-! ### noteChanges -/

@[simp] theorem noteChanges_pending (a : State) (s : State) : (noteChanges a s).pending = s.pending := by unfold noteChanges; rfl
@[simp] theorem noteChanges_now (a : State) (s : State) : (noteChanges a s).now = s.now := by unfold noteChanges; rfl
@[simp] theorem noteChanges_inReset (a : State) (s : State) : (noteChanges a s).inReset = s.inReset := by unfold noteChanges; rfl
@[simp] theorem noteChanges_resetCause (a : State) (s : State) : (noteChanges a s).resetCause = s.resetCause := by unfold noteChanges; rfl
@[simp] theorem noteChanges_strap (a : State) (s : State) : (noteChanges a s).strap = s.strap := by unfold noteChanges; rfl
@[simp] theorem noteChanges_mem (a : State) (s : State) : (noteChanges a s).mem = s.mem := by unfold noteChanges; rfl
@[simp] theorem noteChanges_desk (a : State) (s : State) : (noteChanges a s).desk = s.desk := by unfold noteChanges; rfl
@[simp] theorem noteChanges_drops (a : State) (s : State) : (noteChanges a s).drops = s.drops := by unfold noteChanges; rfl
@[simp] theorem noteChanges_unit (a : State) (s : State) : (noteChanges a s).unit = s.unit := by unfold noteChanges; rfl
@[simp] theorem noteChanges_cfg (a : State) (s : State) : (noteChanges a s).cfg = s.cfg := by unfold noteChanges; rfl
@[simp] theorem noteChanges_adopted (a : State) (s : State) : (noteChanges a s).adopted = s.adopted := by unfold noteChanges; rfl
@[simp] theorem noteChanges_pics (a : State) (s : State) : (noteChanges a s).pics = s.pics := by unfold noteChanges; rfl
@[simp] theorem noteChanges_store (a : State) (s : State) : (noteChanges a s).store = s.store := by unfold noteChanges; rfl
@[simp] theorem noteChanges_trailers (a : State) (s : State) : (noteChanges a s).trailers = s.trailers := by unfold noteChanges; rfl
@[simp] theorem noteChanges_drum (a : State) (s : State) : (noteChanges a s).drum = s.drum := by unfold noteChanges; rfl
@[simp] theorem noteChanges_pipe (a : State) (s : State) : (noteChanges a s).pipe = s.pipe := by unfold noteChanges; rfl
@[simp] theorem noteChanges_intake (a : State) (s : State) : (noteChanges a s).intake = s.intake := by unfold noteChanges; rfl
@[simp] theorem noteChanges_ports (a : State) (s : State) : (noteChanges a s).ports = s.ports := by unfold noteChanges; rfl
@[simp] theorem noteChanges_composer (a : State) (s : State) : (noteChanges a s).composer = s.composer := by unfold noteChanges; rfl
@[simp] theorem noteChanges_loader (a : State) (s : State) : (noteChanges a s).loader = s.loader := by unfold noteChanges; rfl
@[simp] theorem noteChanges_loadResult (a : State) (s : State) : (noteChanges a s).loadResult = s.loadResult := by unfold noteChanges; rfl
@[simp] theorem noteChanges_notice (a : State) (s : State) : (noteChanges a s).notice = s.notice := by unfold noteChanges; rfl
@[simp] theorem noteChanges_clock (a : State) (s : State) : (noteChanges a s).clock = s.clock := by unfold noteChanges; rfl

/-! ### endUnit -/

@[simp] theorem endUnit_pending (u : BusUnit) (s : State) : (endUnit u s).pending = s.pending := rfl
@[simp] theorem endUnit_now (u : BusUnit) (s : State) : (endUnit u s).now = s.now := rfl
@[simp] theorem endUnit_inReset (u : BusUnit) (s : State) : (endUnit u s).inReset = s.inReset := rfl
@[simp] theorem endUnit_resetCause (u : BusUnit) (s : State) : (endUnit u s).resetCause = s.resetCause := rfl
@[simp] theorem endUnit_strap (u : BusUnit) (s : State) : (endUnit u s).strap = s.strap := rfl
@[simp] theorem endUnit_mem (u : BusUnit) (s : State) : (endUnit u s).mem = applyAccesses s.mem (unitAccesses s u) := rfl
@[simp] theorem endUnit_desk (u : BusUnit) (s : State) : (endUnit u s).desk = s.desk := rfl
@[simp] theorem endUnit_drops (u : BusUnit) (s : State) : (endUnit u s).drops = s.drops := rfl
@[simp] theorem endUnit_unit (u : BusUnit) (s : State) : (endUnit u s).unit = none := rfl
@[simp] theorem endUnit_cfg (u : BusUnit) (s : State) : (endUnit u s).cfg = s.cfg := rfl
@[simp] theorem endUnit_adopted (u : BusUnit) (s : State) : (endUnit u s).adopted = s.adopted := rfl
@[simp] theorem endUnit_pics (u : BusUnit) (s : State) : (endUnit u s).pics = s.pics := rfl
@[simp] theorem endUnit_store (u : BusUnit) (s : State) : (endUnit u s).store = s.store := rfl
@[simp] theorem endUnit_trailers (u : BusUnit) (s : State) : (endUnit u s).trailers = s.trailers := rfl
@[simp] theorem endUnit_drum (u : BusUnit) (s : State) : (endUnit u s).drum = s.drum := rfl
@[simp] theorem endUnit_pipe (u : BusUnit) (s : State) : (endUnit u s).pipe = s.pipe := rfl
@[simp] theorem endUnit_intake (u : BusUnit) (s : State) : (endUnit u s).intake = s.intake := rfl
@[simp] theorem endUnit_ports (u : BusUnit) (s : State) : (endUnit u s).ports = s.ports := rfl
@[simp] theorem endUnit_composer (u : BusUnit) (s : State) : (endUnit u s).composer = s.composer := rfl
@[simp] theorem endUnit_loader (u : BusUnit) (s : State) : (endUnit u s).loader = s.loader := rfl
@[simp] theorem endUnit_loadResult (u : BusUnit) (s : State) : (endUnit u s).loadResult = s.loadResult := rfl
@[simp] theorem endUnit_status (u : BusUnit) (s : State) : (endUnit u s).status = s.status := rfl
@[simp] theorem endUnit_notice (u : BusUnit) (s : State) : (endUnit u s).notice = s.notice := rfl
@[simp] theorem endUnit_clock (u : BusUnit) (s : State) : (endUnit u s).clock = s.clock := rfl

/-! ### modSession -/

@[simp] theorem modSession_pending (p : PortNo) (f : Session → Session) (s : State) : (modSession p f s).pending = s.pending := rfl
@[simp] theorem modSession_now (p : PortNo) (f : Session → Session) (s : State) : (modSession p f s).now = s.now := rfl
@[simp] theorem modSession_inReset (p : PortNo) (f : Session → Session) (s : State) : (modSession p f s).inReset = s.inReset := rfl
@[simp] theorem modSession_resetCause (p : PortNo) (f : Session → Session) (s : State) : (modSession p f s).resetCause = s.resetCause := rfl
@[simp] theorem modSession_strap (p : PortNo) (f : Session → Session) (s : State) : (modSession p f s).strap = s.strap := rfl
@[simp] theorem modSession_mem (p : PortNo) (f : Session → Session) (s : State) : (modSession p f s).mem = s.mem := rfl
@[simp] theorem modSession_desk (p : PortNo) (f : Session → Session) (s : State) : (modSession p f s).desk = s.desk := rfl
@[simp] theorem modSession_drops (p : PortNo) (f : Session → Session) (s : State) : (modSession p f s).drops = s.drops := rfl
@[simp] theorem modSession_unit (p : PortNo) (f : Session → Session) (s : State) : (modSession p f s).unit = s.unit := rfl
@[simp] theorem modSession_cfg (p : PortNo) (f : Session → Session) (s : State) : (modSession p f s).cfg = s.cfg := rfl
@[simp] theorem modSession_adopted (p : PortNo) (f : Session → Session) (s : State) : (modSession p f s).adopted = s.adopted := rfl
@[simp] theorem modSession_pics (p : PortNo) (f : Session → Session) (s : State) : (modSession p f s).pics = s.pics := rfl
@[simp] theorem modSession_store (p : PortNo) (f : Session → Session) (s : State) : (modSession p f s).store = s.store := rfl
@[simp] theorem modSession_trailers (p : PortNo) (f : Session → Session) (s : State) : (modSession p f s).trailers = s.trailers := rfl
@[simp] theorem modSession_drum (p : PortNo) (f : Session → Session) (s : State) : (modSession p f s).drum = s.drum := rfl
@[simp] theorem modSession_pipe (p : PortNo) (f : Session → Session) (s : State) : (modSession p f s).pipe = s.pipe := rfl
@[simp] theorem modSession_intake (p : PortNo) (f : Session → Session) (s : State) : (modSession p f s).intake = s.intake := rfl
@[simp] theorem modSession_composer (p : PortNo) (f : Session → Session) (s : State) : (modSession p f s).composer = s.composer := rfl
@[simp] theorem modSession_loader (p : PortNo) (f : Session → Session) (s : State) : (modSession p f s).loader = s.loader := rfl
@[simp] theorem modSession_loadResult (p : PortNo) (f : Session → Session) (s : State) : (modSession p f s).loadResult = s.loadResult := rfl
@[simp] theorem modSession_status (p : PortNo) (f : Session → Session) (s : State) : (modSession p f s).status = s.status := rfl
@[simp] theorem modSession_notice (p : PortNo) (f : Session → Session) (s : State) : (modSession p f s).notice = s.notice := rfl
@[simp] theorem modSession_clock (p : PortNo) (f : Session → Session) (s : State) : (modSession p f s).clock = s.clock := rfl

/-! ### modCounts -/

@[simp] theorem modCounts_pending (p : PortNo) (f : Counts → Counts) (s : State) : (modCounts p f s).pending = s.pending := rfl
@[simp] theorem modCounts_now (p : PortNo) (f : Counts → Counts) (s : State) : (modCounts p f s).now = s.now := rfl
@[simp] theorem modCounts_inReset (p : PortNo) (f : Counts → Counts) (s : State) : (modCounts p f s).inReset = s.inReset := rfl
@[simp] theorem modCounts_resetCause (p : PortNo) (f : Counts → Counts) (s : State) : (modCounts p f s).resetCause = s.resetCause := rfl
@[simp] theorem modCounts_strap (p : PortNo) (f : Counts → Counts) (s : State) : (modCounts p f s).strap = s.strap := rfl
@[simp] theorem modCounts_mem (p : PortNo) (f : Counts → Counts) (s : State) : (modCounts p f s).mem = s.mem := rfl
@[simp] theorem modCounts_desk (p : PortNo) (f : Counts → Counts) (s : State) : (modCounts p f s).desk = s.desk := rfl
@[simp] theorem modCounts_drops (p : PortNo) (f : Counts → Counts) (s : State) : (modCounts p f s).drops = s.drops := rfl
@[simp] theorem modCounts_unit (p : PortNo) (f : Counts → Counts) (s : State) : (modCounts p f s).unit = s.unit := rfl
@[simp] theorem modCounts_cfg (p : PortNo) (f : Counts → Counts) (s : State) : (modCounts p f s).cfg = s.cfg := rfl
@[simp] theorem modCounts_adopted (p : PortNo) (f : Counts → Counts) (s : State) : (modCounts p f s).adopted = s.adopted := rfl
@[simp] theorem modCounts_pics (p : PortNo) (f : Counts → Counts) (s : State) : (modCounts p f s).pics = s.pics := rfl
@[simp] theorem modCounts_store (p : PortNo) (f : Counts → Counts) (s : State) : (modCounts p f s).store = s.store := rfl
@[simp] theorem modCounts_trailers (p : PortNo) (f : Counts → Counts) (s : State) : (modCounts p f s).trailers = s.trailers := rfl
@[simp] theorem modCounts_drum (p : PortNo) (f : Counts → Counts) (s : State) : (modCounts p f s).drum = s.drum := rfl
@[simp] theorem modCounts_pipe (p : PortNo) (f : Counts → Counts) (s : State) : (modCounts p f s).pipe = s.pipe := rfl
@[simp] theorem modCounts_intake (p : PortNo) (f : Counts → Counts) (s : State) : (modCounts p f s).intake = s.intake := rfl
@[simp] theorem modCounts_composer (p : PortNo) (f : Counts → Counts) (s : State) : (modCounts p f s).composer = s.composer := rfl
@[simp] theorem modCounts_loader (p : PortNo) (f : Counts → Counts) (s : State) : (modCounts p f s).loader = s.loader := rfl
@[simp] theorem modCounts_loadResult (p : PortNo) (f : Counts → Counts) (s : State) : (modCounts p f s).loadResult = s.loadResult := rfl
@[simp] theorem modCounts_status (p : PortNo) (f : Counts → Counts) (s : State) : (modCounts p f s).status = s.status := rfl
@[simp] theorem modCounts_notice (p : PortNo) (f : Counts → Counts) (s : State) : (modCounts p f s).notice = s.notice := rfl
@[simp] theorem modCounts_clock (p : PortNo) (f : Counts → Counts) (s : State) : (modCounts p f s).clock = s.clock := rfl

/-! ### modLink -/

@[simp] theorem modLink_pending (p : PortNo) (f : Link → Link) (s : State) : (modLink p f s).pending = s.pending := rfl
@[simp] theorem modLink_now (p : PortNo) (f : Link → Link) (s : State) : (modLink p f s).now = s.now := rfl
@[simp] theorem modLink_inReset (p : PortNo) (f : Link → Link) (s : State) : (modLink p f s).inReset = s.inReset := rfl
@[simp] theorem modLink_resetCause (p : PortNo) (f : Link → Link) (s : State) : (modLink p f s).resetCause = s.resetCause := rfl
@[simp] theorem modLink_strap (p : PortNo) (f : Link → Link) (s : State) : (modLink p f s).strap = s.strap := rfl
@[simp] theorem modLink_mem (p : PortNo) (f : Link → Link) (s : State) : (modLink p f s).mem = s.mem := rfl
@[simp] theorem modLink_desk (p : PortNo) (f : Link → Link) (s : State) : (modLink p f s).desk = s.desk := rfl
@[simp] theorem modLink_drops (p : PortNo) (f : Link → Link) (s : State) : (modLink p f s).drops = s.drops := rfl
@[simp] theorem modLink_unit (p : PortNo) (f : Link → Link) (s : State) : (modLink p f s).unit = s.unit := rfl
@[simp] theorem modLink_cfg (p : PortNo) (f : Link → Link) (s : State) : (modLink p f s).cfg = s.cfg := rfl
@[simp] theorem modLink_adopted (p : PortNo) (f : Link → Link) (s : State) : (modLink p f s).adopted = s.adopted := rfl
@[simp] theorem modLink_pics (p : PortNo) (f : Link → Link) (s : State) : (modLink p f s).pics = s.pics := rfl
@[simp] theorem modLink_store (p : PortNo) (f : Link → Link) (s : State) : (modLink p f s).store = s.store := rfl
@[simp] theorem modLink_trailers (p : PortNo) (f : Link → Link) (s : State) : (modLink p f s).trailers = s.trailers := rfl
@[simp] theorem modLink_drum (p : PortNo) (f : Link → Link) (s : State) : (modLink p f s).drum = s.drum := rfl
@[simp] theorem modLink_pipe (p : PortNo) (f : Link → Link) (s : State) : (modLink p f s).pipe = s.pipe := rfl
@[simp] theorem modLink_intake (p : PortNo) (f : Link → Link) (s : State) : (modLink p f s).intake = s.intake := rfl
@[simp] theorem modLink_composer (p : PortNo) (f : Link → Link) (s : State) : (modLink p f s).composer = s.composer := rfl
@[simp] theorem modLink_loader (p : PortNo) (f : Link → Link) (s : State) : (modLink p f s).loader = s.loader := rfl
@[simp] theorem modLink_loadResult (p : PortNo) (f : Link → Link) (s : State) : (modLink p f s).loadResult = s.loadResult := rfl
@[simp] theorem modLink_status (p : PortNo) (f : Link → Link) (s : State) : (modLink p f s).status = s.status := rfl
@[simp] theorem modLink_notice (p : PortNo) (f : Link → Link) (s : State) : (modLink p f s).notice = s.notice := rfl
@[simp] theorem modLink_clock (p : PortNo) (f : Link → Link) (s : State) : (modLink p f s).clock = s.clock := rfl

/-! ### Reading a port or picture after an update -/

@[simp] theorem modPort_same (p : PortNo) (f : Port → Port) (s : State) : (modPort p f s).ports[p.val] = f s.ports[p.val] := by
  simp [modPort]

theorem modPort_get (p q : PortNo) (f : Port → Port) (s : State) :
    (modPort p f s).ports[q.val] = if q = p then f s.ports[p.val] else s.ports[q.val] := by
  rw [modPort_ports, Vector.getElem_set]
  by_cases h : p = q
  · subst h; simp
  · have h1 : p.val ≠ q.val := fun e => h (Fin.ext e)
    have h2 : ¬q = p := fun e => h e.symm
    rw [if_neg h1, if_neg h2]

theorem modPort_other (p q : PortNo) (f : Port → Port) (s : State) (h : q ≠ p) :
    (modPort p f s).ports[q.val] = s.ports[q.val] := by rw [modPort_get, if_neg h]

@[simp] theorem modSession_same (p : PortNo) (f : Session → Session) (s : State) :
    (modSession p f s).ports[p.val] = { s.ports[p.val] with session := f s.ports[p.val].session } := modPort_same p _ s

@[simp] theorem modCounts_same (p : PortNo) (f : Counts → Counts) (s : State) :
    (modCounts p f s).ports[p.val] =
      { s.ports[p.val] with session := { s.ports[p.val].session with counts := f s.ports[p.val].session.counts } } :=
  modSession_same p _ s

@[simp] theorem modLink_same (p : PortNo) (f : Link → Link) (s : State) :
    (modLink p f s).ports[p.val] = { s.ports[p.val] with link := f s.ports[p.val].link } := modPort_same p _ s

@[simp] theorem modPic_same (k : Fin 16) (f : PictureRecord → PictureRecord) (s : State) :
    (modPic k f s).pics[k.val] = f s.pics[k.val] := by simp [modPic]

theorem modPic_get (k j : Fin 16) (f : PictureRecord → PictureRecord) (s : State) :
    (modPic k f s).pics[j.val] = if j = k then f s.pics[k.val] else s.pics[j.val] := by
  rw [modPic_pics, Vector.getElem_set]
  by_cases h : k = j
  · subst h; simp
  · have h1 : k.val ≠ j.val := fun e => h (Fin.ext e)
    have h2 : ¬j = k := fun e => h e.symm
    rw [if_neg h1, if_neg h2]

theorem modPic_other (k j : Fin 16) (f : PictureRecord → PictureRecord) (s : State) (h : j ≠ k) :
    (modPic k f s).pics[j.val] = s.pics[j.val] := by rw [modPic_get, if_neg h]

/-- What the Status Writer's note of an event changes: changed flags alone, each set exactly where the contents differ. -/
theorem noteChanges_changed (a b : State) (i : Fin 27) :
    (noteChanges a b).status.changed[i.val] = (b.status.changed[i.val] || comparedBytes a i.val != comparedBytes b i.val) :=
  Vector.getElem_ofFn _

@[simp] theorem noteChanges_rewrites (a b : State) : (noteChanges a b).status.rewrites = b.status.rewrites := by
  unfold noteChanges; rfl

end Sys2Proof.Machine
end

