-- ==== Sys2Proof/Laws/Frames.lean ====
section
/-! SUPPORT. What the operations of sessions, ports, slips and the Line Store leave alone, said once for each: one lemma per operation
about `sessionPart`, the state with everything such an operation may change blanked out. -/

set_option linter.unusedSimpArgs false
set_option linter.unusedTactic false
set_option linter.unnecessarySeqFocus false
set_option linter.unreachableTactic false

namespace Sys2Proof.Machine

/-- The state with the parts blanked out that an operation on sessions, ports, slips or staged lines may change: the reference counts
of the pictures, the staged lines, the pipeline's candidates and hold, the ports, the pending slips with the slip writer's state, and
the notice flags. -/
def sessionPart (s : State) : State :=
  { s with
    pics := s.pics.map fun r => { r with refs := 0 }
    store := { s.store with sets := Vector.replicate 16 {} }
    pipe := { s.pipe with candidates := Vector.replicate 4 none, hold := none }, ports := Vector.replicate 4 {}
    composer := { s.composer with pending := [], writer := .idle }, notice := { s.notice with flags := 0 } }

theorem vector_set_map {α β : Type} {n : Nat} (f : α → β) (v : Vector α n) (i : Nat) (h : i < n) (x : α) (e : f x = f v[i]) :
    (v.set i x).map f = v.map f := by
  ext j hj
  simp only [Vector.getElem_map, Vector.getElem_set]
  split
  · next hij => subst hij; exact e
  · rfl

@[simp] theorem sessionPart_modPort (p : PortNo) (f : Port → Port) (s : State) : sessionPart (modPort p f s) = sessionPart s := rfl
@[simp] theorem sessionPart_modSet (i : Fin 16) (f : LineSet → LineSet) (s : State) :
    sessionPart (modStore (modSet i f) s) = sessionPart s := rfl
@[simp] theorem sessionPart_mapWays (f : Way → Way) (s : State) : sessionPart (modStore (mapWays f) s) = sessionPart s := rfl
@[simp] theorem sessionPart_dropPin (p : PortNo) (pic : Fin 16) (line : Nat) (s : State) :
    sessionPart (modStore (dropPin p pic line) s) = sessionPart s := rfl
theorem sessionPart_modPipe (f : Pipeline → Pipeline) (s : State)
    (h : ∀ q, { f q with candidates := Vector.replicate 4 none, hold := none } =
      { q with candidates := Vector.replicate 4 none, hold := none }) : sessionPart (modPipe f s) = sessionPart s := by
  simp only [sessionPart, modPipe, h]
@[simp] theorem sessionPart_reportPhased (p : PortNo) (s : State) : sessionPart (modPipe (reportPhased p) s) = sessionPart s :=
  sessionPart_modPipe _ _ fun q => by unfold reportPhased; split <;> rfl
@[simp] theorem sessionPart_reportWithdrawn (p : PortNo) (s : State) :
    sessionPart (modPipe (reportWithdrawn p) s) = sessionPart s :=
  sessionPart_modPipe _ _ fun q => by unfold reportWithdrawn; split <;> rfl
@[simp] theorem sessionPart_reportDone (p : PortNo) (s : State) : sessionPart (modPipe (reportDone p) s) = sessionPart s :=
  sessionPart_modPipe _ _ fun q => by unfold reportDone; split <;> rfl
@[simp] theorem sessionPart_reportTrailerPlayed (p : PortNo) (s : State) :
    sessionPart (modPipe (reportTrailerPlayed p) s) = sessionPart s :=
  sessionPart_modPipe _ _ fun q => by unfold reportTrailerPlayed; split <;> rfl
@[simp] theorem sessionPart_raise (c : Nat) (s : State) : sessionPart (raise c s) = sessionPart s := rfl
@[simp] theorem sessionPart_pending (s : State) (l : List Slip) :
    sessionPart { s with composer := { s.composer with pending := l } } = sessionPart s := rfl
@[simp] theorem sessionPart_writer (s : State) (w : WriterState) :
    sessionPart { s with composer := { s.composer with writer := w } } = sessionPart s := rfl

/-- A change of a picture's reference count alone leaves `sessionPart` alone. -/
theorem sessionPart_modPic (k : Fin 16) (f : PictureRecord → PictureRecord) (s : State)
    (h : ∀ r, { f r with refs := 0 } = { r with refs := 0 }) : sessionPart (modPic k f s) = sessionPart s := by
  have := vector_set_map (fun r : PictureRecord => { r with refs := 0 }) s.pics k.val k.isLt (f s.pics[k]) (h _)
  simp only [sessionPart, modPic, State.mk.injEq, and_self, true_and, and_true]
  exact this

theorem sessionPart_ite (c : Prop) [Decidable c] (a b : State) :
    sessionPart (if c then a else b) = if c then sessionPart a else sessionPart b := apply_ite _ _ _ _

/-- A fold over operations that leave `sessionPart` alone leaves it alone. -/
theorem sessionPart_foldl {α : Type} (f : State → α → State) (h : ∀ x a, sessionPart (f x a) = sessionPart x) (l : List α)
    (s : State) : sessionPart (l.foldl f s) = sessionPart s := by
  induction l generalizing s with
  | nil => rfl
  | cons a l ih => rw [List.foldl_cons, ih, h]

theorem sessionPart_forPorts (f : PortNo → State → State) (h : ∀ p x, sessionPart (f p x) = sessionPart x) (s : State) :
    sessionPart (forPorts f s) = sessionPart s := sessionPart_foldl _ (fun x p => h p x) _ s

@[simp] theorem sessionPart_modSession (p : PortNo) (f : Session → Session) (s : State) : sessionPart (modSession p f s) = sessionPart s := rfl

@[simp] theorem sessionPart_modCounts (p : PortNo) (f : Counts → Counts) (s : State) : sessionPart (modCounts p f s) = sessionPart s := rfl

@[simp] theorem sessionPart_modLink (p : PortNo) (f : Link → Link) (s : State) : sessionPart (modLink p f s) = sessionPart s := rfl

@[simp] theorem sessionPart_releaseRef (k : Fin 16) (s : State) : sessionPart (releaseRef k s) = sessionPart s := sessionPart_modPic _ _ _ fun _ => rfl

@[simp] theorem sessionPart_takeRef (k : Fin 16) (s : State) : sessionPart (takeRef k s) = reportPicture k (sessionPart s) :=
  congrArg (reportPicture k) (sessionPart_modPic k (fun r => { r with refs := r.refs + 1 }) s fun _ => rfl)

@[simp] theorem sessionPart_askLine (p : PortNo) (pic : Fin 16) (line : Nat) (s : State) : sessionPart (askLine p pic line s) = sessionPart s := by
  unfold askLine
  (try dsimp only)
  (repeat' split) <;> simp [sessionPart_ite]

@[simp] theorem sessionPart_answerWaiters (pic : Fin 16) (line : Nat) (w : Bool) (s : State) : sessionPart (answerWaiters pic line w s) = sessionPart s := by
  unfold answerWaiters
  apply sessionPart_forPorts
  intro p x
  (repeat' split) <;> simp

@[simp] theorem sessionPart_withdrawWait (p : PortNo) (s : State) : sessionPart (withdrawWait p s) = sessionPart s := by
  unfold withdrawWait
  (try dsimp only)
  (repeat' split) <;> simp [sessionPart_ite]

@[simp] theorem sessionPart_dropPins (p : PortNo) (s : State) : sessionPart (dropPins p s) = sessionPart s := by
  unfold dropPins
  (try dsimp only)
  (repeat' split) <;> simp [sessionPart_ite]

@[simp] theorem sessionPart_installLine (pic : Fin 16) (line : Nat) (bytes : List Byte) (s : State) : sessionPart (installLine pic line bytes s) = sessionPart s := by
  unfold installLine
  (try dsimp only)
  (repeat' split) <;> simp [sessionPart_ite]

@[simp] theorem sessionPart_fillWay (pic : Fin 16) (line : Nat) (w : Bool) (s : State) : sessionPart (fillWay pic line w s) = sessionPart s := by
  unfold fillWay
  (try dsimp only)
  (repeat' split) <;> simp [sessionPart_ite]

@[simp] theorem sessionPart_unjoin (pic : Fin 16) (line : Nat) (s : State) : sessionPart (unjoin pic line s) = sessionPart s := sessionPart_forPorts _ (fun _ _ => sessionPart_modPort _ _ _) s

@[simp] theorem sessionPart_pump (p : PortNo) (s : State) : sessionPart (pump p s) = sessionPart s := by
  unfold pump
  (try dsimp only)
  (repeat' split) <;> simp [sessionPart_ite]

@[simp] theorem sessionPart_stageLine (p : PortNo) (n : Nat) (s : State) : sessionPart (stageLine p n s) = sessionPart s := by
  unfold stageLine
  (try dsimp only)
  (repeat' split) <;> simp [sessionPart_ite]

@[simp] theorem sessionPart_service (p : PortNo) (s : State) : sessionPart (service p s) = sessionPart s := by
  unfold service
  (try dsimp only)
  (repeat' split) <;> simp [sessionPart_ite]

@[simp] theorem sessionPart_judgeWriterFrom (w : WriterState) (s : State) : sessionPart (judgeWriterFrom w s) = sessionPart s := by
  unfold judgeWriterFrom
  (try dsimp only)
  (repeat' split) <;> simp [sessionPart_ite]

@[simp] theorem sessionPart_judgeWriter (s : State) : sessionPart (judgeWriter s) = sessionPart s := by
  unfold judgeWriter
  (try dsimp only)
  (repeat' split) <;> simp [sessionPart_ite]

@[simp] theorem sessionPart_blockPort (p : PortNo) (s : State) : sessionPart (blockPort p s) = sessionPart s := by
  unfold blockPort
  (try dsimp only)
  (repeat' split) <;> simp [sessionPart_ite]

@[simp] theorem sessionPart_compose (x : Slip) (s : State) : sessionPart (compose x s) = sessionPart s := by
  unfold compose
  dsimp only
  simp only [sessionPart_ite, sessionPart_blockPort, sessionPart_judgeWriter, sessionPart_pending, sessionPart_raise,
    sessionPart_releaseRef, ite_self]

@[simp] theorem sessionPart_leaveLive (p : PortNo) (r : Bool) (s : State) : sessionPart (leaveLive p r s) = sessionPart s := by
  unfold leaveLive
  (try dsimp only)
  (repeat' split) <;> simp [sessionPart_ite]

@[simp] theorem sessionPart_withdrawLive (p : PortNo) (r : Bool) (s : State) : sessionPart (withdrawLive p r s) = sessionPart s := by
  unfold withdrawLive
  (try dsimp only)
  (repeat' split) <;> simp [sessionPart_ite]

@[simp] theorem sessionPart_departLive (p : PortNo) (s : State) : sessionPart (departLive p s) = sessionPart s := by
  unfold departLive
  (try dsimp only)
  (repeat' split) <;> simp [sessionPart_ite]

@[simp] theorem sessionPart_startTimer (p : PortNo) (k : TimerKind) (n : Nat) (s : State) : sessionPart (startTimer p k n s) = sessionPart s := by
  unfold startTimer
  (try dsimp only)
  (repeat' split) <;> simp [sessionPart_ite]

@[simp] theorem sessionPart_wish (p : PortNo) (w : Wish) (s : State) : sessionPart (wish p w s) = sessionPart s := by
  unfold wish
  (try dsimp only)
  (repeat' split) <;> simp [sessionPart_ite]

@[simp] theorem sessionPart_enterState (p : PortNo) (st : SessionState) (s : State) : sessionPart (enterState p st s) = sessionPart s := by
  unfold enterState
  (try dsimp only)
  (repeat' split) <;> simp [sessionPart_ite]

@[simp] theorem sessionPart_countNoise (p : PortNo) (s : State) : sessionPart (countNoise p s) = sessionPart s := by
  unfold countNoise
  (try dsimp only)
  (repeat' split) <;> simp [sessionPart_ite]

@[simp] theorem sessionPart_finishEnded (p : PortNo) (s : State) : sessionPart (finishEnded p s) = sessionPart s := by
  unfold finishEnded
  (try dsimp only)
  (repeat' split) <;> simp [sessionPart_ite]

@[simp] theorem sessionPart_startWith (p : PortNo) (j : Job) (x : Session) (s : State) : sessionPart (startWith p j x s) = sessionPart s := by
  unfold startWith
  (try dsimp only)
  (repeat' split) <;> simp [sessionPart_ite]

@[simp] theorem sessionPart_startJob (p : PortNo) (j : Job) (c : Bool) (s : State) : sessionPart (startJob p j c s) = sessionPart s := by
  unfold startJob
  (try dsimp only)
  (repeat' split) <;> simp [sessionPart_ite]

@[simp] theorem sessionPart_activate (p : PortNo) (j : Job) (c : Bool) (s : State) : sessionPart (activate p j c s) = sessionPart s := by
  unfold activate
  (repeat' split) <;> simp [sessionPart_ite]

@[simp] theorem sessionPart_startContext (p : PortNo) (c : Context) (s : State) : sessionPart (startContext p c s) = sessionPart s := by
  unfold startContext
  (try dsimp only)
  (repeat' split) <;> simp [sessionPart_ite]

@[simp] theorem sessionPart_select (p : PortNo) (s : State) : sessionPart (select p s) = sessionPart s := by
  unfold select
  (try dsimp only)
  (repeat' split) <;> simp [sessionPart_ite]

@[simp] theorem sessionPart_beginOrSelect (p : PortNo) (s : State) : sessionPart (beginOrSelect p s) = sessionPart s := by
  unfold beginOrSelect
  (try dsimp only)
  (repeat' split) <;> simp [sessionPart_ite]

@[simp] theorem sessionPart_emptySession (p : PortNo) (s : State) : sessionPart (emptySession p s) = sessionPart s := by
  unfold emptySession
  (try dsimp only)
  (repeat' split) <;> simp [sessionPart_ite]

@[simp] theorem sessionPart_saveContext (p : PortNo) (s : State) : sessionPart (saveContext p s) = sessionPart s := by
  unfold saveContext
  (try dsimp only)
  (repeat' split) <;> simp [sessionPart_ite]

@[simp] theorem sessionPart_releaseComplete (p : PortNo) (s : State) : sessionPart (releaseComplete p s) = sessionPart s := by
  unfold releaseComplete
  (try dsimp only)
  (repeat' split) <;> simp [sessionPart_ite]

@[simp] theorem sessionPart_releaseLine (p : PortNo) (f : Bool) (s : State) : sessionPart (releaseLine p f s) = sessionPart s := by
  unfold releaseLine
  (try dsimp only)
  (repeat' split) <;> simp [sessionPart_ite]

@[simp] theorem sessionPart_endSession (p : PortNo) (o : SlipOutcome) (d : Nat) (s : State) : sessionPart (endSession p o d s) = sessionPart s := by
  unfold endSession
  (try dsimp only)
  (repeat' split) <;> simp [sessionPart_ite]

@[simp] theorem sessionPart_closeSession (p : PortNo) (s : State) : sessionPart (closeSession p s) = sessionPart s := by
  unfold closeSession
  (try dsimp only)
  (repeat' split) <;> simp [sessionPart_ite]

@[simp] theorem sessionPart_beginPass (p : PortNo) (n : Nat) (s : State) : sessionPart (beginPass p n s) = sessionPart s := by
  unfold beginPass
  (try dsimp only)
  (repeat' split) <;> simp [sessionPart_ite]

@[simp] theorem sessionPart_bandStart (p : PortNo) (s : State) : sessionPart (bandStart p s) = sessionPart s := by
  unfold bandStart
  (try dsimp only)
  (repeat' split) <;> simp [sessionPart_ite]

@[simp] theorem sessionPart_rejudge (p : PortNo) (s : State) : sessionPart (rejudge p s) = sessionPart s := by
  unfold rejudge
  (try dsimp only)
  (repeat' split) <;> simp [sessionPart_ite]

@[simp] theorem sessionPart_enterHeld (p : PortNo) (s : State) : sessionPart (enterHeld p s) = sessionPart s := by
  unfold enterHeld
  (try dsimp only)
  (repeat' split) <;> simp [sessionPart_ite]

@[simp] theorem sessionPart_reachPhasing (p : PortNo) (s : State) : sessionPart (reachPhasing p s) = sessionPart s := by
  unfold reachPhasing
  (try dsimp only)
  (repeat' split) <;> simp [sessionPart_ite]

@[simp] theorem sessionPart_part (p : PortNo) (s : State) : sessionPart (part p s) = sessionPart s := by
  unfold part
  (try dsimp only)
  (repeat' split) <;> simp [sessionPart_ite]

@[simp] theorem sessionPart_boundary (p : PortNo) (g : State → State) (s : State) (h : ∀ x, sessionPart (g x) = sessionPart x) :
    sessionPart (boundary p g s) = sessionPart s := by
  unfold boundary
  dsimp only
  (repeat' split) <;> simp [h]

@[simp] theorem sessionPart_releaseParted (p : PortNo) (s : State) : sessionPart (releaseParted p s) = sessionPart s := by
  unfold releaseParted
  (try dsimp only)
  (repeat' split) <;> simp [sessionPart_ite]

@[simp] theorem sessionPart_bumpJob (p : PortNo) (d c : Job) (s : State) : sessionPart (bumpJob p d c s) = sessionPart s := by
  unfold bumpJob
  (try dsimp only)
  (repeat' split) <;> simp [sessionPart_ite]

@[simp] theorem sessionPart_checkPreempt (p : PortNo) (c : Job) (s : State) : sessionPart (checkPreempt p c s) = sessionPart s := by
  unfold checkPreempt
  (try dsimp only)
  (repeat' split) <;> simp [sessionPart_ite]

@[simp] theorem sessionPart_abortQueued (t : AbortTarget) (p : PortNo) (s : State) : sessionPart (abortQueued t p s) = sessionPart s := by
  unfold abortQueued
  exact (sessionPart_foldl _ (fun x j => sessionPart_compose _ x) _ _).trans (sessionPart_modPort _ _ _)

@[simp] theorem sessionPart_abortActive (t : AbortTarget) (p : PortNo) (s : State) : sessionPart (abortActive t p s) = sessionPart s := by
  unfold abortActive
  (try dsimp only)
  (repeat' split) <;> simp [sessionPart_ite]

@[simp] theorem sessionPart_abortContexts (t : AbortTarget) (p : PortNo) (s : State) : sessionPart (abortContexts t p s) = sessionPart s := by
  unfold abortContexts
  exact (sessionPart_foldl _ (fun x j => sessionPart_compose _ x) _ _).trans (sessionPart_modPort _ _ _)

@[simp] theorem sessionPart_abortPort (t : AbortTarget) (p : PortNo) (s : State) : sessionPart (abortPort t p s) = sessionPart s := by
  unfold abortPort
  (try dsimp only)
  (repeat' split) <;> simp [sessionPart_ite]

@[simp] theorem sessionPart_lineReady (k : Fin 16) (n m : Nat) (p : PortNo) (s : State) : sessionPart (lineReady k n m p s) = sessionPart s := by
  unfold lineReady
  (try dsimp only)
  (repeat' split) <;> simp [sessionPart_ite]

@[simp] theorem sessionPart_tellScanEnd (k : Fin 16) (p : PortNo) (s : State) : sessionPart (tellScanEnd k p s) = sessionPart s := by
  unfold tellScanEnd
  (try dsimp only)
  (repeat' split) <;> simp [sessionPart_ite]

@[simp] theorem sessionPart_orderOut (p : PortNo) (s : State) : sessionPart (orderOut p s) = sessionPart s := by
  unfold orderOut
  (try dsimp only)
  (repeat' split) <;> simp [sessionPart_ite]

@[simp] theorem sessionPart_joinLive (p : PortNo) (s : State) : sessionPart (joinLive p s) = sessionPart s := by
  unfold joinLive
  (try dsimp only)
  (repeat' split) <;> simp [sessionPart_ite]

@[simp] theorem sessionPart_tellAltered (k : Fin 16) (n : Nat) (p : PortNo) (s : State) : sessionPart (tellAltered k n p s) = sessionPart s := by
  unfold tellAltered
  (try dsimp only)
  (repeat' split) <;> simp [sessionPart_ite]

@[simp] theorem sessionPart_portFreed (p : PortNo) (s : State) : sessionPart (portFreed p s) = sessionPart s := by
  unfold portFreed
  (try dsimp only)
  (repeat' split) <;> simp [sessionPart_ite]

@[simp] theorem sessionPart_resumeHeld (p : PortNo) (s : State) : sessionPart (resumeHeld p s) = sessionPart s := by
  unfold resumeHeld
  (try dsimp only)
  (repeat' split) <;> simp [sessionPart_ite]

@[simp] theorem sessionPart_checkHead (p : PortNo) (s : State) : sessionPart (checkHead p s) = sessionPart s := by
  unfold checkHead
  (try dsimp only)
  (repeat' split) <;> simp [sessionPart_ite]

@[simp] theorem sessionPart_unpinFrame (p : PortNo) (f : Frame) (s : State) : sessionPart (unpinFrame p f s) = sessionPart s := by
  unfold unpinFrame
  (try dsimp only)
  (repeat' split) <;> simp [sessionPart_ite]

@[simp] theorem sessionPart_frameEnd (p : PortNo) (s : State) : sessionPart (frameEnd p s) = sessionPart s := by
  unfold frameEnd
  (try dsimp only)
  (repeat' split) <;> simp [sessionPart_ite]

@[simp] theorem sessionPart_takeUp (p : PortNo) (s : State) : sessionPart (takeUp p s) = sessionPart s := by
  unfold takeUp
  (try dsimp only)
  (repeat' split) <;> simp [sessionPart_ite]

@[simp] theorem sessionPart_takeFail (p : PortNo) (c : FailCause) (s : State) : sessionPart (takeFail p c s) = sessionPart s := by
  unfold takeFail
  (try dsimp only)
  (repeat' split) <;> simp [sessionPart_ite]

@[simp] theorem sessionPart_enterPhasing (p : PortNo) (n : Nat) (s : State) : sessionPart (enterPhasing p n s) = sessionPart s := by
  unfold enterPhasing
  (try dsimp only)
  (repeat' split) <;> simp [sessionPart_ite]

@[simp] theorem sessionPart_startVerdict (p : PortNo) (s : State) : sessionPart (startVerdict p s) = sessionPart s := by
  unfold startVerdict
  (try dsimp only)
  (repeat' split) <;> simp [sessionPart_ite]

@[simp] theorem sessionPart_itemPlayed (p : PortNo) (i : Item) (s : State) : sessionPart (itemPlayed p i s) = sessionPart s := by
  unfold itemPlayed
  (try dsimp only)
  (repeat' split) <;> simp [sessionPart_ite]

@[simp] theorem sessionPart_takeDoneItem (p : PortNo) (s : State) : sessionPart (takeDoneItem p s) = sessionPart s := by
  unfold takeDoneItem
  (try dsimp only)
  (repeat' split) <;> simp [sessionPart_ite]

@[simp] theorem sessionPart_takeDoneFlush (p : PortNo) (s : State) : sessionPart (takeDoneFlush p s) = sessionPart s := by
  unfold takeDoneFlush
  (try dsimp only)
  (repeat' split) <;> simp [sessionPart_ite]

@[simp] theorem sessionPart_takeSlack (p : PortNo) (s : State) : sessionPart (takeSlack p s) = sessionPart s := by
  unfold takeSlack
  (try dsimp only)
  (repeat' split) <;> simp [sessionPart_ite]

@[simp] theorem sessionPart_endClose (p : PortNo) (r : Bool) (s : State) : sessionPart (endClose p r s) = sessionPart s := by
  unfold endClose
  (try dsimp only)
  (repeat' split) <;> simp [sessionPart_ite]

@[simp] theorem sessionPart_sessionLost (p : PortNo) (s : State) : sessionPart (sessionLost p s) = sessionPart s := by
  unfold sessionLost
  (try dsimp only)
  (repeat' split) <;> simp [sessionPart_ite]

@[simp] theorem sessionPart_takeDropCarrier (p : PortNo) (s : State) : sessionPart (takeDropCarrier p s) = sessionPart s := by
  unfold takeDropCarrier
  (try dsimp only)
  (repeat' split) <;> simp [sessionPart_ite]

@[simp] theorem sessionPart_completeRelease (p : PortNo) (s : State) : sessionPart (completeRelease p s) = sessionPart s := by
  unfold completeRelease
  (try dsimp only)
  (repeat' split) <;> simp [sessionPart_ite]

@[simp] theorem sessionPart_takeDropOnHook (p : PortNo) (s : State) : sessionPart (takeDropOnHook p s) = sessionPart s := by
  unfold takeDropOnHook
  (try dsimp only)
  (repeat' split) <;> simp [sessionPart_ite]

@[simp] theorem sessionPart_releaseExpiry (p : PortNo) (s : State) : sessionPart (releaseExpiry p s) = sessionPart s := by
  unfold releaseExpiry
  (try dsimp only)
  (repeat' split) <;> simp [sessionPart_ite]

@[simp] theorem sessionPart_takeReady (p : PortNo) (rpm ioc : Nat) (c : Bool) (s : State) : sessionPart (takeReady p rpm ioc c s) = sessionPart s := by
  unfold takeReady
  (try dsimp only)
  (repeat' split) <;> simp [sessionPart_ite]

@[simp] theorem sessionPart_stopVerdict (p : PortNo) (s : State) : sessionPart (stopVerdict p s) = sessionPart s := by
  unfold stopVerdict
  (try dsimp only)
  (repeat' split) <;> simp [sessionPart_ite]

@[simp] theorem sessionPart_againVerdict (p : PortNo) (s : State) : sessionPart (againVerdict p s) = sessionPart s := by
  unfold againVerdict
  (try dsimp only)
  (repeat' split) <;> simp [sessionPart_ite]

@[simp] theorem sessionPart_waitVerdict (p : PortNo) (s : State) : sessionPart (waitVerdict p s) = sessionPart s := by
  unfold waitVerdict
  (try dsimp only)
  (repeat' split) <;> simp [sessionPart_ite]

@[simp] theorem sessionPart_nextBand (p : PortNo) (s : State) : sessionPart (nextBand p s) = sessionPart s := by
  unfold nextBand
  (try dsimp only)
  (repeat' split) <;> simp [sessionPart_ite]

@[simp] theorem sessionPart_goodVerdict (p : PortNo) (s : State) : sessionPart (goodVerdict p s) = sessionPart s := by
  unfold goodVerdict
  (try dsimp only)
  (repeat' split) <;> simp [sessionPart_ite]

@[simp] theorem sessionPart_takeGood (p : PortNo) (a : Bool) (s : State) : sessionPart (takeGood p a s) = sessionPart s := by
  unfold takeGood
  (try dsimp only)
  (repeat' split) <;> simp [sessionPart_ite]

@[simp] theorem sessionPart_collide (p : PortNo) (s : State) : sessionPart (collide p s) = sessionPart s := by
  unfold collide
  (try dsimp only)
  (repeat' split) <;> simp [sessionPart_ite]

@[simp] theorem sessionPart_takeHang (p : PortNo) (s : State) : sessionPart (takeHang p s) = sessionPart s := by
  unfold takeHang
  (try dsimp only)
  (repeat' split) <;> simp [sessionPart_ite]

@[simp] theorem sessionPart_takeReceipt (p : PortNo) (n : Nat) (s : State) : sessionPart (takeReceipt p n s) = sessionPart s := by
  unfold takeReceipt
  (try dsimp only)
  (repeat' split) <;> simp [sessionPart_ite]

@[simp] theorem sessionPart_unexpected (p : PortNo) (s : State) : sessionPart (unexpected p s) = sessionPart s := by
  unfold unexpected
  (try dsimp only)
  (repeat' split) <;> simp [sessionPart_ite]

@[simp] theorem sessionPart_takeSignal (p : PortNo) (sig : FarSignal) (s : State) : sessionPart (takeSignal p sig s) = sessionPart s := by
  unfold takeSignal
  (try dsimp only)
  (repeat' split) <;> simp [sessionPart_ite]

@[simp] theorem sessionPart_judged (p : PortNo) (sig : Option FarSignal) (s : State) : sessionPart (judged p sig s) = sessionPart s := by
  unfold judged
  (try dsimp only)
  (repeat' split) <;> simp [sessionPart_ite]

@[simp] theorem sessionPart_takeHeard (p : PortNo) (c : Byte) (n : Nat) (d : List Byte) (s : State) : sessionPart (takeHeard p c n d s) = sessionPart s := by
  unfold takeHeard
  (try dsimp only)
  (repeat' split) <;> simp [sessionPart_ite]

@[simp] theorem sessionPart_hearSignal (p : PortNo) (c : Byte) (d : List Byte) (s : State) : sessionPart (hearSignal p c d s) = sessionPart s := by
  unfold hearSignal
  (try dsimp only)
  (repeat' split) <;> simp [sessionPart_ite]

@[simp] theorem sessionPart_phasedExpiry (p : PortNo) (s : State) : sessionPart (phasedExpiry p s) = sessionPart s := by
  unfold phasedExpiry
  (try dsimp only)
  (repeat' split) <;> simp [sessionPart_ite]

@[simp] theorem sessionPart_verdictExpiry (p : PortNo) (s : State) : sessionPart (verdictExpiry p s) = sessionPart s := by
  unfold verdictExpiry
  (try dsimp only)
  (repeat' split) <;> simp [sessionPart_ite]

@[simp] theorem sessionPart_waitExpiry (p : PortNo) (s : State) : sessionPart (waitExpiry p s) = sessionPart s := by
  unfold waitExpiry
  (try dsimp only)
  (repeat' split) <;> simp [sessionPart_ite]

@[simp] theorem sessionPart_expire (k : TimerKind) (f : PortNo → State → State) (p : PortNo) (s : State)
    (h : ∀ x, sessionPart (f p x) = sessionPart x) : sessionPart (expire k f p s) = sessionPart s := by
  unfold expire
  split <;> simp [h]

@[simp] theorem sessionPart_giveWay (p : PortNo) (s : State) : sessionPart (giveWay p s) = sessionPart s := by
  unfold giveWay
  (repeat' split) <;> simp [sessionPart_ite]

@[simp] theorem sessionPart_withdrawWaiting (p : PortNo) (s : State) : sessionPart (withdrawWaiting p s) = sessionPart s := by
  unfold withdrawWaiting
  (repeat' split) <;> simp [sessionPart_ite]

@[simp] theorem sessionPart_detachTransfer (k : Fin 16) (p : PortNo) (s : State) :
    sessionPart (detachTransfer k p s) = sessionPart s := sessionPart_modLink _ _ _

@[simp] theorem sessionPart_patchTransfer (k : Fin 16) (n : Nat) (composed : List Nat) (a : DeskAccess) (la P : Nat) (p : PortNo)
    (s : State) : sessionPart (patchTransfer k n composed a la P p s) = sessionPart s := sessionPart_modLink _ _ _

/-- WITHDRAWN reported twice is WITHDRAWN reported once. -/
@[simp] theorem reportWithdrawn_twice (p : PortNo) (q : Pipeline) :
    reportWithdrawn p (reportWithdrawn p q) = reportWithdrawn p q := by
  unfold reportWithdrawn
  split
  · simp_all
  · rfl

/-- A slip that does not block leaves the ports as they were. -/
theorem compose_ports (x : Slip) (s : State) (h : blocking x = false) : (compose x s).ports = s.ports := by
  simp only [compose, h, Bool.false_eq_true, if_false, judgeWriter, judgeWriterFrom]
  split <;> split <;> rfl

/-- Giving way leaves every port's session, link and contexts as they were. -/
theorem giveWay_port (p : PortNo) (s : State) (q : PortNo) :
    (giveWay p s).ports[q].session = s.ports[q].session ∧ (giveWay p s).ports[q].link = s.ports[q].link ∧
    (giveWay p s).ports[q].contexts = s.ports[q].contexts ∧ (giveWay p s).ports[q].hold = s.ports[q].hold := by
  unfold giveWay
  split
  · rw [apply_ite State.ports, compose_ports _ _ rfl]
    by_cases h : p = q
    · subst h; split <;> simp
    · have h' : p.val ≠ q.val := fun e => h (Fin.ext e)
      split <;> simp [Vector.getElem_set, h']
  · simp

/-- A frame's units are those of the item it hands over, detached or patched. -/
@[simp] theorem itemOf_detachFrame (k : Fin 16) (f : Frame) : itemOf (detachFrame k f) = itemOf f := by
  unfold detachFrame
  split
  · split <;> rfl
  · rfl

@[simp] theorem itemOf_patchFrame (k : Fin 16) (n least : Nat) (a : DeskAccess) (la P : Nat) (f : Frame) :
    itemOf (patchFrame k n least a la P f) = itemOf f := by
  unfold patchFrame
  split
  · split <;> rfl
  · rfl

/-- A detached frame goes out as the bytes it had. -/
@[simp] theorem frameBytes_detachFrame (k : Fin 16) (f : Frame) : frameBytes (detachFrame k f) = frameBytes f := by
  unfold detachFrame
  split
  · split <;> rfl
  · rfl

/-- The band check accumulator is all that a frame's end adds to at its port. -/
theorem accumulate_eq (f : Frame) (q : Port) : ∃ n, accumulate f q = { q with bandCheck := n } := by
  unfold accumulate
  split
  · exact ⟨_, rfl⟩
  · exact ⟨q.bandCheck, rfl⟩

end Sys2Proof.Machine
end

