-- ==== Sys2Proof/Laws/Memory.lean ====
section
/-! SUPPORT. Memory: what a byte reads as after each memory operation, and that every memory operation keeps the canonical form. -/

namespace Sys2Proof.Machine

/-! ### Reading after writing -/

/-- A write changes no other byte. -/
theorem readByte_writeByte_other (m : Memory) (a x : Nat) (v : Byte) (h : x ≠ a) :
    readByte (writeByte m a v) x = readByte m x := by
  induction m with
  | nil => unfold writeByte; split <;> simp [readByte, h]
  | cons c rest ih =>
    obtain ⟨b, w⟩ := c
    unfold writeByte
    split_ifs with h1 h2 h3 h4 <;> simp_all [readByte]

/-- The canonical form in words: addresses rise along the list, and no entry is an unwritten byte. -/
theorem wf_iff (m : Memory) :
    Memory.wf m = true ↔ m.Pairwise (fun c d => c.1 < d.1) ∧ ∀ c ∈ m, c.2 ≠ unwrittenByte := by
  induction m with
  | nil => simp [Memory.wf]
  | cons c rest ih =>
    obtain ⟨a, v⟩ := c
    cases rest with
    | nil => simp [Memory.wf]
    | cons d rest =>
      obtain ⟨b, w⟩ := d
      rw [Memory.wf, Bool.and_eq_true, Bool.and_eq_true, ih]
      simp only [bne_iff_ne, decide_eq_true_eq, List.pairwise_cons, List.mem_cons]
      constructor
      · rintro ⟨⟨hv, hab⟩, ⟨hb, hp⟩, hn⟩
        refine ⟨⟨?_, hb, hp⟩, ?_⟩
        · rintro e (rfl | he)
          · exact hab
          · exact hab.trans (hb e he)
        · rintro e (rfl | he)
          · exact hv
          · exact hn e he
      · rintro ⟨⟨ha, hb, hp⟩, hn⟩
        exact ⟨⟨hn _ (Or.inl rfl), ha _ (Or.inl rfl)⟩, ⟨hb, hp⟩, fun e he => hn e (Or.inr he)⟩

/-- A byte at an address below every listed one is unwritten. -/
theorem readByte_below (m : Memory) (x : Nat) (h : ∀ c ∈ m, x < c.1) : readByte m x = unwrittenByte := by
  induction m with
  | nil => rfl
  | cons c rest ih =>
    obtain ⟨b, w⟩ := c
    have hb := h (b, w) (by simp)
    simp only [readByte]
    rw [if_neg (by simp at hb; omega)]
    exact ih fun c hc => h c (List.mem_cons_of_mem _ hc)

/-- In a canonical memory a byte written reads back. -/
theorem readByte_writeByte_same (m : Memory) (a : Nat) (v : Byte) (hm : Memory.wf m = true) :
    readByte (writeByte m a v) a = v := by
  rw [wf_iff] at hm
  obtain ⟨hp, -⟩ := hm
  induction m with
  | nil => unfold writeByte; split <;> simp_all [readByte]
  | cons c rest ih =>
    obtain ⟨b, w⟩ := c
    rw [List.pairwise_cons] at hp
    unfold writeByte
    split_ifs with h1 h2 h3 h4
    · subst h2
      simp only [readByte]
      rw [if_neg (by omega)]
      exact readByte_below _ _ fun c hc => lt_trans h1 (hp.1 c hc)
    · simp [readByte]
    · subst h4
      exact readByte_below _ _ fun c hc => h3 ▸ hp.1 c hc
    · simp [readByte]
    · simp only [readByte, h3, if_false]
      exact ih hp.2

/-- Every address a write leaves listed was listed, or is the one written. -/
theorem mem_writeByte (m : Memory) (a : Nat) (v : Byte) (c : Host.Cell) (h : c ∈ writeByte m a v) :
    c ∈ m ∨ (c = (a, v) ∧ v ≠ unwrittenByte) := by
  induction m with
  | nil => unfold writeByte at h; split at h <;> simp_all
  | cons d rest ih =>
    obtain ⟨b, w⟩ := d
    unfold writeByte at h
    split_ifs at h with h1 h2 h3 h4 <;> simp only [List.mem_cons] at h ⊢
    · exact Or.inl h
    · rcases h with h | h
      · exact Or.inr ⟨h, h2⟩
      · exact Or.inl h
    · exact Or.inl (Or.inr h)
    · rcases h with h | h
      · exact Or.inr ⟨h, h4⟩
      · exact Or.inl (Or.inr h)
    · rcases h with h | h
      · exact Or.inl (Or.inl h)
      · rcases ih h with h | h
        · exact Or.inl (Or.inr h)
        · exact Or.inr h

/-- A write keeps the canonical form. -/
theorem wf_writeByte (m : Memory) (a : Nat) (v : Byte) (hm : Memory.wf m = true) : Memory.wf (writeByte m a v) = true := by
  rw [wf_iff] at hm ⊢
  refine ⟨?_, fun c hc => ?_⟩
  · obtain ⟨hp, -⟩ := hm
    induction m with
    | nil => unfold writeByte; split <;> simp
    | cons c rest ih =>
      obtain ⟨b, w⟩ := c
      have hp' := hp
      rw [List.pairwise_cons] at hp
      unfold writeByte
      split_ifs with h1 h2 h3 h4
      · exact hp'
      · refine List.pairwise_cons.2 ⟨?_, hp'⟩
        rintro c hc
        rcases List.mem_cons.1 hc with rfl | hc
        · exact h1
        · exact lt_trans h1 (hp.1 c hc)
      · exact hp.2
      · exact List.pairwise_cons.2 ⟨fun c hc => h3 ▸ hp.1 c hc, hp.2⟩
      · refine List.pairwise_cons.2 ⟨fun c hc => ?_, ih hp.2⟩
        rcases mem_writeByte _ _ _ _ hc with hc | ⟨rfl, -⟩
        · exact hp.1 c hc
        · simp; omega
  · rcases mem_writeByte _ _ _ _ hc with hc | ⟨rfl, hv⟩
    · exact hm.2 c hc
    · exact hv

/-- One access keeps the canonical form. -/
theorem wf_applyAccess (m : Memory) (x : Access) (hm : Memory.wf m = true) : Memory.wf (applyAccess m x) = true := by
  induction x generalizing m with
  | nil => exact hm
  | cons c rest ih => exact ih _ (wf_writeByte _ _ _ hm)

/-- A run of accesses keeps the canonical form. -/
theorem wf_applyAccesses (m : Memory) (xs : List Access) (hm : Memory.wf m = true) :
    Memory.wf (applyAccesses m xs) = true := by
  induction xs generalizing m with
  | nil => exact hm
  | cons x rest ih => exact ih _ (wf_applyAccess _ _ hm)

/-- The memory of the part after reset is in canonical form. -/
theorem wf_reset : Memory.wf State.reset.mem = true := rfl

/-- The end of a unit keeps the canonical form. -/
theorem wf_endUnit (u : BusUnit) (s : State) (hm : Memory.wf s.mem = true) : Memory.wf (endUnit u s).mem = true :=
  wf_applyAccesses _ _ hm

/-! ### Runs of accesses -/

/-- An access changes no byte that it does not write. -/
theorem readByte_applyAccess_other (m : Memory) (acc : Access) (x : Nat) (h : ∀ c ∈ acc, x ≠ c.1) :
    readByte (applyAccess m acc) x = readByte m x := by
  induction acc generalizing m with
  | nil => rfl
  | cons c rest ih =>
    obtain ⟨a, v⟩ := c
    rw [applyAccess, ih _ fun c hc => h c (List.mem_cons_of_mem _ hc)]
    exact readByte_writeByte_other _ _ _ _ (h (a, v) (by simp))

/-- A run of accesses changes no byte that none of them writes. -/
theorem readByte_applyAccesses_other (m : Memory) (xs : List Access) (x : Nat) (h : ∀ acc ∈ xs, ∀ c ∈ acc, x ≠ c.1) :
    readByte (applyAccesses m xs) x = readByte m x := by
  induction xs generalizing m with
  | nil => rfl
  | cons acc rest ih =>
    rw [applyAccesses, ih _ fun a ha => h a (List.mem_cons_of_mem _ ha)]
    exact readByte_applyAccess_other _ _ _ (h acc (by simp))

/-- Two runs of accesses in turn. -/
theorem applyAccesses_append (m : Memory) (xs ys : List Access) :
    applyAccesses m (xs ++ ys) = applyAccesses (applyAccesses m xs) ys := by
  induction xs generalizing m with
  | nil => rfl
  | cons x rest ih => exact ih _

/-- An access that writes a byte once leaves it there. -/
theorem readByte_applyAccess_mem (m : Memory) (acc : Access) (a : Nat) (v : Byte) (hm : Memory.wf m = true)
    (hin : (a, v) ∈ acc) (hd : acc.Pairwise fun c d => c.1 ≠ d.1) : readByte (applyAccess m acc) a = v := by
  induction acc generalizing m with
  | nil => simp at hin
  | cons c rest ih =>
    obtain ⟨b, w⟩ := c
    rw [List.pairwise_cons] at hd
    rw [applyAccess]
    rcases List.mem_cons.1 hin with h | h
    · obtain ⟨rfl, rfl⟩ := Prod.mk.injEq .. ▸ h
      rw [readByte_applyAccess_other _ _ _ fun c hc => hd.1 c hc]
      exact readByte_writeByte_same _ _ _ hm
    · exact ih _ (wf_writeByte _ _ _ hm) h hd.2

/-- A run of accesses is one access that writes all their bytes in turn. -/
theorem applyAccess_append (m : Memory) (x y : Access) : applyAccess m (x ++ y) = applyAccess (applyAccess m x) y := by
  induction x generalizing m with
  | nil => rfl
  | cons c rest ih => exact ih _

/-- A run of accesses is one access that writes all their bytes in turn. -/
theorem applyAccesses_flatten (m : Memory) (xs : List Access) : applyAccesses m xs = applyAccess m xs.flatten := by
  induction xs generalizing m with
  | nil => rfl
  | cons x rest ih => rw [applyAccesses, ih, List.flatten_cons, applyAccess_append]

/-! ### Bytes at successive addresses -/

/-- The bytes an access at successive addresses writes. -/
theorem mem_accessOf (a : Nat) (bs : List Byte) (c : Host.Cell) :
    c ∈ accessOf a bs ↔ ∃ i, ∃ h : i < bs.length, c = (addr26 (a + i), bs[i]) := by
  induction bs generalizing a with
  | nil => simp [accessOf]
  | cons b rest ih =>
    rw [accessOf, List.mem_cons, ih]
    constructor
    · rintro (rfl | ⟨i, h, rfl⟩)
      · exact ⟨0, by simp, by simp⟩
      · exact ⟨i + 1, by simpa using h, by simp [Nat.add_assoc, Nat.add_comm 1 i]⟩
    · rintro ⟨i, h, rfl⟩
      cases i with
      | zero => exact Or.inl (by simp)
      | succ i => exact Or.inr ⟨i, by simpa using h, by simp [Nat.add_assoc, Nat.add_comm 1 i]⟩

/-- Successive addresses of the 26-bit bus are different. -/
theorem addr26_ne (a i j : Nat) (hi : i < 2 ^ 26) (hj : j < 2 ^ 26) (h : i ≠ j) : addr26 (a + i) ≠ addr26 (a + j) := by
  unfold addr26
  omega

/-- An access that writes bytes at successive addresses leaves them there and nothing else changed. -/
theorem storedAt_of (m : Memory) (acc : Access) (a : Nat) (bs : List Byte) (hm : Memory.wf m = true) (hl : bs.length ≤ 2 ^ 26)
    (hmem : ∀ c, c ∈ acc ↔ c ∈ accessOf a bs) : StoredAt m (applyAccess m acc) a bs := by
  have key : ∀ (l : Access) (m : Memory), Memory.wf m = true → (∀ c ∈ l, c ∈ accessOf a bs) →
      ∀ i, ∀ h : i < bs.length, (addr26 (a + i), bs[i]) ∈ l → readByte (applyAccess m l) (addr26 (a + i)) = bs[i] := by
    intro l
    induction l with
    | nil => intro m _ _ i h hin; simp at hin
    | cons c rest ih =>
      intro m hm hsub i h hin
      obtain ⟨b, w⟩ := c
      rw [applyAccess]
      by_cases hr : (addr26 (a + i), bs[i]) ∈ rest
      · exact ih _ (wf_writeByte _ _ _ hm) (fun c hc => hsub c (List.mem_cons_of_mem _ hc)) i h hr
      · rcases List.mem_cons.1 hin with he | he
        · obtain ⟨rfl, rfl⟩ := Prod.mk.injEq .. ▸ he
          rw [readByte_applyAccess_other, readByte_writeByte_same _ _ _ hm]
          intro c hc hx
          obtain ⟨j, hj, rfl⟩ := (mem_accessOf _ _ _).1 (hsub c (List.mem_cons_of_mem _ hc))
          by_cases hij : i = j
          · subst hij; exact hr hc
          · exact addr26_ne a i j (by omega) (by omega) hij hx
        · exact absurd he hr
  refine ⟨fun i h => key acc m hm (fun c hc => (hmem c).1 hc) i h ((hmem _).2 ((mem_accessOf _ _ _).2 ⟨i, h, rfl⟩)), ?_⟩
  intro x hx
  refine readByte_applyAccess_other _ _ _ fun c hc => ?_
  obtain ⟨i, h, rfl⟩ := (mem_accessOf _ _ _).1 ((hmem c).1 hc)
  exact hx i h

/-- One access that writes bytes at successive addresses. -/
theorem storedAt_accessOf (m : Memory) (a : Nat) (bs : List Byte) (hm : Memory.wf m = true) (hl : bs.length ≤ 2 ^ 26) :
    StoredAt m (applyAccess m (accessOf a bs)) a bs := storedAt_of m _ a bs hm hl fun _ => Iff.rfl

/-- Two runs of bytes, one behind the other. -/
theorem accessOf_append (a : Nat) (bs cs : List Byte) : accessOf a (bs ++ cs) = accessOf a bs ++ accessOf (a + bs.length) cs := by
  induction bs generalizing a with
  | nil => simp [accessOf]
  | cons b rest ih =>
    rw [List.cons_append, accessOf, ih, accessOf, List.cons_append]
    simp [Nat.add_assoc, Nat.add_comm 1]

/-- Word by word is the same as at once. -/
theorem flatten_wordAccesses (a : Nat) (bs : List Byte) (n : Nat) (h : bs.length ≤ 4 * n) :
    (wordAccesses a bs n).flatten = accessOf a bs := by
  induction n generalizing a bs with
  | zero => simp_all [wordAccesses, accessOf]
  | succ n ih =>
    rw [wordAccesses, List.flatten_cons, ih _ _ (by simp; omega)]
    rcases Nat.lt_or_ge bs.length 4 with h4 | h4
    · rw [List.take_of_length_le (by omega), List.drop_eq_nil_of_le (by omega)]
      simp [accessOf]
    · conv_rhs => rw [← List.take_append_drop 4 bs, accessOf_append]
      rw [List.length_take, Nat.min_eq_left h4]

/-- The scan line write: density bytes, zero pad, trailer. -/
theorem flatten_scanLineAccesses (e : LineEntry) (lineAddr : Nat) :
    (scanLineAccesses e lineAddr).flatten =
      accessOf lineAddr (padTo (4 * ceilDiv e.bytes.length 4) e.bytes ++
        trailerBytes (lineCheck e.bytes) (BitVec.ofNat 8 e.line) (flagScanned ||| if e.heldRef then flagHeldRef else 0)) := by
  have hw : e.bytes.length ≤ 4 * ceilDiv e.bytes.length 4 := by unfold ceilDiv; omega
  have hp : (padTo (4 * ceilDiv e.bytes.length 4) e.bytes).length = 4 * ceilDiv e.bytes.length 4 := by
    unfold padTo; simp; omega
  unfold scanLineAccesses
  rw [List.flatten_append, flatten_wordAccesses _ _ _ hp.le, accessOf_append, hp]
  simp

/-- The status record write: the record's bytes, then its change count byte. -/
theorem flatten_statusAccesses (addr : Nat) (bytes : List Byte) (count : Byte) :
    (statusAccesses addr bytes count).flatten = accessOf addr (bytes ++ [count]) := by
  unfold statusAccesses
  rw [List.flatten_append, flatten_wordAccesses _ _ _ (by unfold ceilDiv; omega), accessOf_append]
  simp

/-- The slip record write writes the same bytes as a write of the whole slip in order, the mark word last. -/
theorem mem_slipAccesses (addr : Nat) (bytes : List Byte) (hl : bytes.length = 64) (c : Host.Cell) :
    c ∈ (slipAccesses addr bytes).flatten ↔ c ∈ accessOf addr bytes := by
  unfold slipAccesses
  rw [List.flatten_append, flatten_wordAccesses _ _ _ (by simp [hl])]
  conv_rhs => rw [← List.take_append_drop 4 bytes, accessOf_append, List.length_take, hl]
  simp [or_comm]

end Sys2Proof.Machine
end

