-- ==== Sys2Proof/Laws/PerInstr.lean ====
section
/-! SUPPORT. Statements made for each command: when a command is taken is free, and has no part in whether it is well formed. -/

namespace Sys2Proof.Laws.Retimed

/-- The same command taken at another time. -/
def retime (t : Nat) (i : Instr) : Instr :=
  match i with
  | .powerOn _ => .powerOn t
  | .warmReset _ made => .warmReset t made
  | .resetRelease _ straps coverOpen homeClosed => .resetRelease t straps coverOpen homeClosed
  | .deskAccess _ a => .deskAccess t a
  | .arbiterGrant _ => .arbiterGrant t
  | .deskWrite _ => .deskWrite t
  | .postWordWrite _ => .postWordWrite t
  | .markWordWrite _ => .markWordWrite t
  | .loadWordWrite _ => .loadWordWrite t
  | .clearWordWrite _ => .clearWordWrite t
  | .checkUpkeepUnitEnd _ composed => .checkUpkeepUnitEnd t composed
  | .scanLineWriteEnd _ => .scanLineWriteEnd t
  | .lineFetchEnd _ => .lineFetchEnd t
  | .trailerFlagUnitEnd _ => .trailerFlagUnitEnd t
  | .intakeReaderTake _ => .intakeReaderTake t
  | .jobRecordReadEnd _ => .jobRecordReadEnd t
  | .scan _ => .scan t
  | .send _ => .send t
  | .abortJob _ => .abortJob t
  | .abortPicture _ => .abortPicture t
  | .releasePicture _ => .releasePicture t
  | .holdPort _ => .holdPort t
  | .resumePort _ => .resumePort t
  | .resultWordWriteEnd _ => .resultWordWriteEnd t
  | .tachPulse _ => .tachPulse t
  | .indexPulse _ => .indexPulse t
  | .conversionRequest _ => .conversionRequest t
  | .codeReady _ code => .codeReady t code
  | .stallTimerExpiry _ => .stallTimerExpiry t
  | .spinUpTimerExpiry _ => .spinUpTimerExpiry t
  | .slipTimerExpiry _ => .slipTimerExpiry t
  | .idleSpinTimerExpiry _ => .idleSpinTimerExpiry t
  | .coastTimerExpiry _ => .coastTimerExpiry t
  | .coverOpen _ => .coverOpen t
  | .coverClose _ => .coverClose t
  | .settleTimerExpiry _ => .settleTimerExpiry t
  | .homingStep _ => .homingStep t
  | .homeSwitchClose _ => .homeSwitchClose t
  | .homingLimitExpiry _ => .homingLimitExpiry t
  | .carriageStep _ => .carriageStep t
  | .startLimitTimerExpiry _ => .startLimitTimerExpiry t
  | .frameTransferEnd _ p => .frameTransferEnd t p
  | .up _ p => .up t p
  | .fail _ p cause => .fail t p cause
  | .doneItem _ p => .doneItem t p
  | .doneFlush _ p => .doneFlush t p
  | .slack _ p => .slack t p
  | .heard _ p code duration data => .heard t p code duration data
  | .ready _ p rpm ioc capable => .ready t p rpm ioc capable
  | .phased _ p => .phased t p
  | .goodA _ p => .goodA t p
  | .goodB _ p => .goodB t p
  | .again _ p => .again t p
  | .wait _ p => .wait t p
  | .receipt _ p number => .receipt t p number
  | .hang _ p => .hang t p
  | .dropCarrier _ p => .dropCarrier t p
  | .dropOnHook _ p => .dropOnHook t p
  | .reportDiscarded _ p frame => .reportDiscarded t p frame
  | .releaseTimerExpiry _ p => .releaseTimerExpiry t p
  | .seizeTimerExpiry _ p => .seizeTimerExpiry t p
  | .readyTimerExpiry _ p => .readyTimerExpiry t p
  | .phasedTimerExpiry _ p => .phasedTimerExpiry t p
  | .verdictTimerExpiry _ p => .verdictTimerExpiry t p
  | .waitTimerExpiry _ p => .waitTimerExpiry t p
  | .quietTimerExpiry _ p => .quietTimerExpiry t p
  | .receiptTimerExpiry _ p => .receiptTimerExpiry t p
  | .slipRecordWriteEnd _ => .slipRecordWriteEnd t
  | .setupPartReadEnd _ => .setupPartReadEnd t
  | .loadResultWriteEnd _ => .loadResultWriteEnd t
  | .statusRecordWriteEnd _ => .statusRecordWriteEnd t
  | .deskClockSecond _ => .deskClockSecond t
  | .deskRead _ => .deskRead t
  | .homeSwitchOpen _ => .homeSwitchOpen t

/-- A command may be taken at any time: its time is what is given, and its other operands alone decide whether it is well formed. -/
def Statement (i : Instr) : Prop := ∀ t, Machine.timeOf (retime t i) = t ∧ (retime t i).wellFormed = i.wellFormed

end Sys2Proof.Laws.Retimed

namespace Sys2Proof

theorem Laws.Retimed.powerOn (t : Nat) : Laws.Retimed.Statement (.powerOn t) := fun _ => ⟨rfl, rfl⟩
theorem Laws.Retimed.warmReset (t : Nat) (made : Nat) : Laws.Retimed.Statement (.warmReset t made) := fun _ => ⟨rfl, rfl⟩
theorem Laws.Retimed.resetRelease (t : Nat) (straps : BitVec 3) (coverOpen homeClosed : Bool) : Laws.Retimed.Statement (.resetRelease t straps coverOpen homeClosed) := fun _ => ⟨rfl, rfl⟩
theorem Laws.Retimed.deskAccess (t : Nat) (a : DeskAccess) : Laws.Retimed.Statement (.deskAccess t a) := fun _ => ⟨rfl, rfl⟩
theorem Laws.Retimed.arbiterGrant (t : Nat) : Laws.Retimed.Statement (.arbiterGrant t) := fun _ => ⟨rfl, rfl⟩
theorem Laws.Retimed.deskWrite (t : Nat) : Laws.Retimed.Statement (.deskWrite t) := fun _ => ⟨rfl, rfl⟩
theorem Laws.Retimed.postWordWrite (t : Nat) : Laws.Retimed.Statement (.postWordWrite t) := fun _ => ⟨rfl, rfl⟩
theorem Laws.Retimed.markWordWrite (t : Nat) : Laws.Retimed.Statement (.markWordWrite t) := fun _ => ⟨rfl, rfl⟩
theorem Laws.Retimed.loadWordWrite (t : Nat) : Laws.Retimed.Statement (.loadWordWrite t) := fun _ => ⟨rfl, rfl⟩
theorem Laws.Retimed.clearWordWrite (t : Nat) : Laws.Retimed.Statement (.clearWordWrite t) := fun _ => ⟨rfl, rfl⟩
theorem Laws.Retimed.checkUpkeepUnitEnd (t : Nat) (composed : List Nat) : Laws.Retimed.Statement (.checkUpkeepUnitEnd t composed) := fun _ => ⟨rfl, rfl⟩
theorem Laws.Retimed.scanLineWriteEnd (t : Nat) : Laws.Retimed.Statement (.scanLineWriteEnd t) := fun _ => ⟨rfl, rfl⟩
theorem Laws.Retimed.lineFetchEnd (t : Nat) : Laws.Retimed.Statement (.lineFetchEnd t) := fun _ => ⟨rfl, rfl⟩
theorem Laws.Retimed.trailerFlagUnitEnd (t : Nat) : Laws.Retimed.Statement (.trailerFlagUnitEnd t) := fun _ => ⟨rfl, rfl⟩
theorem Laws.Retimed.intakeReaderTake (t : Nat) : Laws.Retimed.Statement (.intakeReaderTake t) := fun _ => ⟨rfl, rfl⟩
theorem Laws.Retimed.jobRecordReadEnd (t : Nat) : Laws.Retimed.Statement (.jobRecordReadEnd t) := fun _ => ⟨rfl, rfl⟩
theorem Laws.Retimed.scan (t : Nat) : Laws.Retimed.Statement (.scan t) := fun _ => ⟨rfl, rfl⟩
theorem Laws.Retimed.send (t : Nat) : Laws.Retimed.Statement (.send t) := fun _ => ⟨rfl, rfl⟩
theorem Laws.Retimed.abortJob (t : Nat) : Laws.Retimed.Statement (.abortJob t) := fun _ => ⟨rfl, rfl⟩
theorem Laws.Retimed.abortPicture (t : Nat) : Laws.Retimed.Statement (.abortPicture t) := fun _ => ⟨rfl, rfl⟩
theorem Laws.Retimed.releasePicture (t : Nat) : Laws.Retimed.Statement (.releasePicture t) := fun _ => ⟨rfl, rfl⟩
theorem Laws.Retimed.holdPort (t : Nat) : Laws.Retimed.Statement (.holdPort t) := fun _ => ⟨rfl, rfl⟩
theorem Laws.Retimed.resumePort (t : Nat) : Laws.Retimed.Statement (.resumePort t) := fun _ => ⟨rfl, rfl⟩
theorem Laws.Retimed.resultWordWriteEnd (t : Nat) : Laws.Retimed.Statement (.resultWordWriteEnd t) := fun _ => ⟨rfl, rfl⟩
theorem Laws.Retimed.tachPulse (t : Nat) : Laws.Retimed.Statement (.tachPulse t) := fun _ => ⟨rfl, rfl⟩
theorem Laws.Retimed.indexPulse (t : Nat) : Laws.Retimed.Statement (.indexPulse t) := fun _ => ⟨rfl, rfl⟩
theorem Laws.Retimed.conversionRequest (t : Nat) : Laws.Retimed.Statement (.conversionRequest t) := fun _ => ⟨rfl, rfl⟩
theorem Laws.Retimed.codeReady (t : Nat) (code : BitVec 12) : Laws.Retimed.Statement (.codeReady t code) := fun _ => ⟨rfl, rfl⟩
theorem Laws.Retimed.stallTimerExpiry (t : Nat) : Laws.Retimed.Statement (.stallTimerExpiry t) := fun _ => ⟨rfl, rfl⟩
theorem Laws.Retimed.spinUpTimerExpiry (t : Nat) : Laws.Retimed.Statement (.spinUpTimerExpiry t) := fun _ => ⟨rfl, rfl⟩
theorem Laws.Retimed.slipTimerExpiry (t : Nat) : Laws.Retimed.Statement (.slipTimerExpiry t) := fun _ => ⟨rfl, rfl⟩
theorem Laws.Retimed.idleSpinTimerExpiry (t : Nat) : Laws.Retimed.Statement (.idleSpinTimerExpiry t) := fun _ => ⟨rfl, rfl⟩
theorem Laws.Retimed.coastTimerExpiry (t : Nat) : Laws.Retimed.Statement (.coastTimerExpiry t) := fun _ => ⟨rfl, rfl⟩
theorem Laws.Retimed.coverOpen (t : Nat) : Laws.Retimed.Statement (.coverOpen t) := fun _ => ⟨rfl, rfl⟩
theorem Laws.Retimed.coverClose (t : Nat) : Laws.Retimed.Statement (.coverClose t) := fun _ => ⟨rfl, rfl⟩
theorem Laws.Retimed.settleTimerExpiry (t : Nat) : Laws.Retimed.Statement (.settleTimerExpiry t) := fun _ => ⟨rfl, rfl⟩
theorem Laws.Retimed.homingStep (t : Nat) : Laws.Retimed.Statement (.homingStep t) := fun _ => ⟨rfl, rfl⟩
theorem Laws.Retimed.homeSwitchClose (t : Nat) : Laws.Retimed.Statement (.homeSwitchClose t) := fun _ => ⟨rfl, rfl⟩
theorem Laws.Retimed.homingLimitExpiry (t : Nat) : Laws.Retimed.Statement (.homingLimitExpiry t) := fun _ => ⟨rfl, rfl⟩
theorem Laws.Retimed.carriageStep (t : Nat) : Laws.Retimed.Statement (.carriageStep t) := fun _ => ⟨rfl, rfl⟩
theorem Laws.Retimed.startLimitTimerExpiry (t : Nat) : Laws.Retimed.Statement (.startLimitTimerExpiry t) := fun _ => ⟨rfl, rfl⟩
theorem Laws.Retimed.frameTransferEnd (t : Nat) (p : PortNo) : Laws.Retimed.Statement (.frameTransferEnd t p) := fun _ => ⟨rfl, rfl⟩
theorem Laws.Retimed.up (t : Nat) (p : PortNo) : Laws.Retimed.Statement (.up t p) := fun _ => ⟨rfl, rfl⟩
theorem Laws.Retimed.fail (t : Nat) (p : PortNo) (cause : FailCause) : Laws.Retimed.Statement (.fail t p cause) := fun _ => ⟨rfl, rfl⟩
theorem Laws.Retimed.doneItem (t : Nat) (p : PortNo) : Laws.Retimed.Statement (.doneItem t p) := fun _ => ⟨rfl, rfl⟩
theorem Laws.Retimed.doneFlush (t : Nat) (p : PortNo) : Laws.Retimed.Statement (.doneFlush t p) := fun _ => ⟨rfl, rfl⟩
theorem Laws.Retimed.slack (t : Nat) (p : PortNo) : Laws.Retimed.Statement (.slack t p) := fun _ => ⟨rfl, rfl⟩
theorem Laws.Retimed.heard (t : Nat) (p : PortNo) (code : Byte) (duration : BitVec 16) (data : List Byte) : Laws.Retimed.Statement (.heard t p code duration data) := fun _ => ⟨rfl, rfl⟩
theorem Laws.Retimed.ready (t : Nat) (p : PortNo) (rpm : Byte) (ioc : BitVec 16) (capable : Bool) : Laws.Retimed.Statement (.ready t p rpm ioc capable) := fun _ => ⟨rfl, rfl⟩
theorem Laws.Retimed.phased (t : Nat) (p : PortNo) : Laws.Retimed.Statement (.phased t p) := fun _ => ⟨rfl, rfl⟩
theorem Laws.Retimed.goodA (t : Nat) (p : PortNo) : Laws.Retimed.Statement (.goodA t p) := fun _ => ⟨rfl, rfl⟩
theorem Laws.Retimed.goodB (t : Nat) (p : PortNo) : Laws.Retimed.Statement (.goodB t p) := fun _ => ⟨rfl, rfl⟩
theorem Laws.Retimed.again (t : Nat) (p : PortNo) : Laws.Retimed.Statement (.again t p) := fun _ => ⟨rfl, rfl⟩
theorem Laws.Retimed.wait (t : Nat) (p : PortNo) : Laws.Retimed.Statement (.wait t p) := fun _ => ⟨rfl, rfl⟩
theorem Laws.Retimed.receipt (t : Nat) (p : PortNo) (number : BitVec 32) : Laws.Retimed.Statement (.receipt t p number) := fun _ => ⟨rfl, rfl⟩
theorem Laws.Retimed.hang (t : Nat) (p : PortNo) : Laws.Retimed.Statement (.hang t p) := fun _ => ⟨rfl, rfl⟩
theorem Laws.Retimed.dropCarrier (t : Nat) (p : PortNo) : Laws.Retimed.Statement (.dropCarrier t p) := fun _ => ⟨rfl, rfl⟩
theorem Laws.Retimed.dropOnHook (t : Nat) (p : PortNo) : Laws.Retimed.Statement (.dropOnHook t p) := fun _ => ⟨rfl, rfl⟩
theorem Laws.Retimed.reportDiscarded (t : Nat) (p : PortNo) (frame : List Byte) : Laws.Retimed.Statement (.reportDiscarded t p frame) := fun _ => ⟨rfl, rfl⟩
theorem Laws.Retimed.releaseTimerExpiry (t : Nat) (p : PortNo) : Laws.Retimed.Statement (.releaseTimerExpiry t p) := fun _ => ⟨rfl, rfl⟩
theorem Laws.Retimed.seizeTimerExpiry (t : Nat) (p : PortNo) : Laws.Retimed.Statement (.seizeTimerExpiry t p) := fun _ => ⟨rfl, rfl⟩
theorem Laws.Retimed.readyTimerExpiry (t : Nat) (p : PortNo) : Laws.Retimed.Statement (.readyTimerExpiry t p) := fun _ => ⟨rfl, rfl⟩
theorem Laws.Retimed.phasedTimerExpiry (t : Nat) (p : PortNo) : Laws.Retimed.Statement (.phasedTimerExpiry t p) := fun _ => ⟨rfl, rfl⟩
theorem Laws.Retimed.verdictTimerExpiry (t : Nat) (p : PortNo) : Laws.Retimed.Statement (.verdictTimerExpiry t p) := fun _ => ⟨rfl, rfl⟩
theorem Laws.Retimed.waitTimerExpiry (t : Nat) (p : PortNo) : Laws.Retimed.Statement (.waitTimerExpiry t p) := fun _ => ⟨rfl, rfl⟩
theorem Laws.Retimed.quietTimerExpiry (t : Nat) (p : PortNo) : Laws.Retimed.Statement (.quietTimerExpiry t p) := fun _ => ⟨rfl, rfl⟩
theorem Laws.Retimed.receiptTimerExpiry (t : Nat) (p : PortNo) : Laws.Retimed.Statement (.receiptTimerExpiry t p) := fun _ => ⟨rfl, rfl⟩
theorem Laws.Retimed.slipRecordWriteEnd (t : Nat) : Laws.Retimed.Statement (.slipRecordWriteEnd t) := fun _ => ⟨rfl, rfl⟩
theorem Laws.Retimed.setupPartReadEnd (t : Nat) : Laws.Retimed.Statement (.setupPartReadEnd t) := fun _ => ⟨rfl, rfl⟩
theorem Laws.Retimed.loadResultWriteEnd (t : Nat) : Laws.Retimed.Statement (.loadResultWriteEnd t) := fun _ => ⟨rfl, rfl⟩
theorem Laws.Retimed.statusRecordWriteEnd (t : Nat) : Laws.Retimed.Statement (.statusRecordWriteEnd t) := fun _ => ⟨rfl, rfl⟩
theorem Laws.Retimed.deskClockSecond (t : Nat) : Laws.Retimed.Statement (.deskClockSecond t) := fun _ => ⟨rfl, rfl⟩
theorem Laws.Retimed.deskRead (t : Nat) : Laws.Retimed.Statement (.deskRead t) := fun _ => ⟨rfl, rfl⟩
theorem Laws.Retimed.homeSwitchOpen (t : Nat) : Laws.Retimed.Statement (.homeSwitchOpen t) := fun _ => ⟨rfl, rfl⟩

end Sys2Proof
end

