-- ==== Sys2Proof/Tests/Slice0.lean ====
section
/-! SUPPORT. Tests: the worked examples of the spec, the checks of WellFormed refusing an ill-formed command each, and for every
statement with hypotheses a state and operands that meet them, at the boundaries where its clauses meet. -/

set_option Elab.async false

namespace Sys2Proof.Tests

open Sys2Proof.Machine

/-! ### States to test on -/

/-- The state a command leaves. -/
def after (c : Instr) (s : State) : State :=
  match exec c s with
  | .next s' => s'
  | _ => s

/-- The window table of the desk access example of chapter 1. -/
def windows : Vector WindowEntry 8 :=
  #v[{ kind := .picture, base := 0x0400000, size := 0x400000 }, { kind := .jobs, base := 0x0800000, size := 0x1000 },
    { kind := .slips, base := 0x0801000, size := 0x1000 }, { kind := .status, base := 0x0802000, size := 0x2000 }, {}, {}, {}, {}]

/-- Picture 3 of that example: SCANNING at IOC 352, M = 240. -/
def scanned : PictureRecord :=
  { state := .scanning, ioc := 352, samples := 1106, picSamples := 1074, stride := 1080, lines := 1000, mark := 240, rpm := 60,
    refs := 2 }

/-- The part of that example, all ports enabled. -/
def desk : State :=
  { State.reset with
    strap := 2, adopted := true
    cfg := {
      windows := windows, jobSlots := 32, ringCapacity := 64, ports := Vector.replicate 4 { enabled := true, bandLength := 16 }
      slots := (Vector.replicate 16 {}).set 3 { base := 0x0400000, size := 0x400000 } }
    pics := State.reset.pics.set 3 scanned
    composer := { filled := (List.replicate 64 false).set 9 true } }

/-- A desk write. -/
def writes (addr : Nat) (enables : BitVec 4) (data : Word) : DeskAccess :=
  { addr := BitVec.ofNat 26 addr, write := true, enables := enables, data := data }

/-- A desk read. -/
def reads (addr : Nat) : DeskAccess := { addr := BitVec.ofNat 26 addr, write := false, enables := 15, data := 0 }

/-- The desk is held on an access. -/
def held (x : DeskAccess) : State := { desk with desk := { access := some x } }

/-- A unit is in progress. -/
def busy (u : BusUnit) (s : State) : State := { s with unit := some u }

/-- A job of picture 3. -/
def job : Job := { id := 57, pic := 3, dest := [1, 2], prio := 3, caption := [0x41, 0x42] }

/-- Port 0 changed. -/
def port0 (f : Port → Port) (s : State) : State := { s with ports := s.ports.set 0 (f s.ports[0]) }

/-- Port 0 conducts its job in this session state over a CONNECTED link. -/
def sends (x : Session) (s : State) : State :=
  port0 (fun q =>
    { q with active := some { job := job, begun := true }, session := { x with job := some job }, link := { state := .connected } }) s

/-- Picture 3 with another record. -/
def pic3 (r : PictureRecord) (s : State) : State := { s with pics := s.pics.set 3 r }

/-- A COMPLETE picture. -/
def complete : PictureRecord := { scanned with state := .complete, mark := 1000 }

/-- A scan of picture 3 runs. -/
def running (s : State) : State :=
  { s with
    pipe := {
      state := .running, scanId := some 41, pic := 3, rpm := 60, lines := 1000, samples := 1106, picSamples := 1074, next := 241 }
    drum := { state := .locked, target := some 60, scanHeld := true, goodRun := 3, stall := some 250000, lamp := .ready
              carriage := .known 5, advance := 300, pulseState := some .locked, lastIndex := some 0 } }

/-- A job record of this kind: its bytes 12, 13, 14 and 15 as given, zeros elsewhere. -/
def record (kind b12 b13 b14 b15 : Byte) : List Byte :=
  List.replicate 8 0 ++ [kind, 0, 0, 0, b12, b13, b14, b15] ++ List.replicate 112 0

/-- The record stands in job slot 0, whose read is in progress. -/
def reading (r : List Byte) (s : State) : State :=
  busy (.jobRead 0x0800000)
    { s with
      mem := applyAccess s.mem (accessOf 0x0800000 r)
      intake := { hand := some { slot := 0, addr := 0x0800000 }, jobId := 56 } }

/-! ### Well-formed commands -/

theorem test_illformed_ready_rpm : (Instr.ready 0 0 61 576 true).wellFormed = false := by decide +kernel
theorem test_illformed_receipt_number : (Instr.receipt 0 0 1000000).wellFormed = false := by decide +kernel
theorem test_illformed_discarded_frame : (Instr.reportDiscarded 0 0 [0x81]).wellFormed = false := by decide +kernel
theorem test_illformed_composed_counts : (Instr.checkUpkeepUnitEnd 0 [0, 0, 0]).wellFormed = false := by decide +kernel
theorem test_wellformed_at_the_bounds :
    (Instr.ready 0 0 120 65535 false).wellFormed = true ∧ (Instr.receipt 0 0 999999).wellFormed = true ∧
    (Instr.reportDiscarded 0 0 [0x82, 4]).wellFormed = true ∧ (Instr.checkUpkeepUnitEnd 0 [0, 0, 0, 0]).wellFormed = true := by
  decide +kernel

/-! ### Worked examples of the spec -/

/-- R20's table. -/
theorem test_geometry :
    [200, 288, 352, 600].map (fun ioc => (samplesOf ioc, picSamplesOf ioc, strideOf ioc)) =
      [(628, 596, 600), (905, 873, 880), (1106, 1074, 1080), (1885, 1853, 1860)] ∧ 1048576 / strideOf 288 = 1191 := by
  decide +kernel

/-- Chapter 1, check upkeep on a retouched line. -/
theorem test_upkeep_check :
    upkeepCheck (writes 0x0434FF0 15 0) 0x0434BC0 1074 [200, 180, 0, 0] 40000 = 39620 ∧
    wordAddr (writes 0x0434FF0 15 0) - 0x0434BC0 = 1072 := by decide +kernel

/-- Chapter 1, a run of desk accesses. -/
theorem test_desk_accesses :
    classify desk (reads 0x0434FF4) = .unit (.forward .plain) ∧ classify desk (writes 0x0434FF4 15 0) = .trailerDrop ∧
    classify desk (writes 0x0441EB0 15 0) = .collisionDrop 3 ∧
    classify desk (writes 0x0800280 15 1) = .unit (.forward (.post 5)) ∧
    classify desk (writes 0x0800300 1 1) = .unit (.forward .plain) ∧
    classify desk (writes 0x0801240 15 0) = .unit (.forward (.mark 9)) ∧ classify desk (writes 0x0802010 15 7) = .statusDrop ∧
    classify desk (writes 0x0C00000 15 7) = .unit (.forward .plain) ∧
    classify desk (writes 0x3FA0008 15 128) = .unit (.forward (.clear 128)) := by decide +kernel

/-- Chapter 4, the loop at 60 rpm. -/
theorem test_speed_loop :
    let c : DrumSettings := { dBase60 := 400, kp := 64, ki := 2 }
    let d : Drum := { state := .locked, target := some 60, integral := 12000, lastTach := some 0 }
    let d1 := tachLoop c 8400 d
    let d2 := tachLoop c 16650 d1
    let d3 := tachLoop c 24984 d2
    (d1.integral, d1.duty) = (20000, 534) ∧ (d2.integral, d2.duty) = (10000, 248) ∧ (d3.integral, d3.duty) = (10080, 406) := by
  decide +kernel

/-- Chapter 4, gaining and losing lock at 90 rpm: pulses 8, 9 and 10. -/
theorem test_lock :
    let d : Drum := { state := .spinUp, target := some 90, goodRun := 2, scanHeld := true, lastIndex := some 0, spinUp := some 1 }
    let d8 := indexDecision {} 666620 d
    let d9 := indexDecision {} 1333400 d8
    let d10 := indexDecision {} 1999900 d9
    (d8.state, d8.goodRun) = (.locked, 3) ∧ (d9.state, d9.goodRun) = (.locked, 3) ∧
    (d10.state, d10.goodRun, d10.slip) = (.slipped, 0, some 11999900) := by decide +kernel

/-- Chapter 4, stepping at an advance of 300: lines 4 and 5. -/
theorem test_carriage_steps :
    let d : Drum := { carriage := .known 4, advance := 300, fraction := 176 }
    let d4 := carriageAccept 0 1000000 1106 d
    let d5 := carriageAccept 1000000 1000000 1106 { d4 with steps := [] }
    d4.fraction = 220 ∧ d4.steps.length = 1 ∧ d5.fraction = 8 ∧ d5.steps = [1000000 + 48000000 / 2212, 1000000 + 56000000 / 2212] := by
  decide +kernel

/-- Chapter 5, mapping four codes. -/
theorem test_tone_mapping :
    [2000, 1100, 300, 3650].map (fun a => density ({} : DrumSettings).curve (scaled 3600 400 a)) = [127, 199, 255, 0] := by decide +kernel

/-- Chapter 7, tone codes for four densities. -/
theorem test_tone_codes :
    [0, 127, 199, 255].map (toneCode 1500 2300) = [1500, 1898, 2124, 2300] ∧
    [0, 127, 199, 255].map (toneCode 1000 100) = [1000, 552, 298, 100] := by decide +kernel

/-- R122's captions. -/
theorem test_caption_checks :
    lrc [0x41, 0x42] = 3 ∧ crc16 [0x41] = 0x30C0 ∧ crc16 [0x41, 0x42] = 0x61B0 ∧
    crc16 [0x31, 0x32, 0x33, 0x34, 0x35, 0x36, 0x37, 0x38, 0x39] = 0xBB3D := by decide +kernel

/-! ### The hypotheses of the statements are met -/

theorem test_witness_StepTakesTheFrontCommand : desk.pending = [] := rfl

theorem test_witness_EveryCommandAnswersNext :
    ({ desk with inReset := true } : State).inReset = true ∧ (∀ t, Instr.tachPulse 5 ≠ .powerOn t) ∧
    (∀ t k o h, Instr.tachPulse 5 ≠ .resetRelease t k o h) ∧ (∀ t a, Instr.tachPulse 5 ≠ .deskAccess t a) ∧
    ∀ t, Instr.tachPulse 5 ≠ .deskClockSecond t := ⟨rfl, nofun, nofun, nofun, nofun⟩

theorem test_witness_ChangedRecordsAreFlagged :
    desk.inReset = false ∧ exec (.coverOpen 5) desk = .next (after (.coverOpen 5) desk) ∧ (∀ t, Instr.coverOpen 5 ≠ .powerOn t) ∧
    (∀ t n, Instr.coverOpen 5 ≠ .warmReset t n) ∧ (∀ t, Instr.coverOpen 5 ≠ .arbiterGrant t) ∧
    (∀ t, Instr.coverOpen 5 ≠ .setupPartReadEnd t) := ⟨rfl, rfl, nofun, nofun, nofun, nofun⟩

/-- The drum record, and no other, is flagged when the cover opens. -/
theorem test_changed_flags : (List.finRange 27).filter (fun i => (after (.coverOpen 5) desk).status.changed[i]) = [3] := by
  decide +kernel

theorem test_witness_ResetsBeginAndEnd : desk.inReset = false ∧ ({ desk with inReset := true } : State).inReset = true := ⟨rfl, rfl⟩

/-- The reference a SEND takes is reported, though the slip composed at once gives it back and the record ends as it began. -/
theorem test_reference_reported :
    (let s := reading (record 2 3 0 1 0) (pic3 { complete with state := .cut, mark := 0 } desk)
     let t := after (.send 5) s
     t.pics = s.pics ∧ t.composer.pending.map (·.outcome) = [.short] ∧ s.status.changed[7] = false ∧ t.status.changed[7] = true) := by
  decide +kernel

/-- A warm reset lets the access under way complete, which may be a result word or a FILLED mark. -/
theorem test_warm_reset_access :
    (let reset (made : Nat) (u : BusUnit) : State := after (.warmReset 5 made) (busy u desk)
     (reset 0 (.desk (writes 6 4 0x00AA0000) (.forward .plain))).mem = [(6, 0xAA)] ∧
     (reset 0 (.desk (writes 6 4 0x00AA0000) (.forward .plain))).unit = none ∧
     (reset 0 (.loadResult [1, 1, 0, 0])).mem = [(0x3FA0004, 1), (0x3FA0005, 1)] ∧
     (reset 0 (.resultWrite 0x0800004 [1, 0, 57, 0])).mem = [(0x0800004, 1), (0x0800006, 57)] ∧
     (let slot (made : Nat) : List Byte × Option Nat :=
        let s := reset made (.slipWrite 0 0x0801000 (List.replicate 64 7))
        ([0x0801000, 0x0801003, 0x0801004, 0x080103F].map (readByte s.mem), s.composer.nextSerial)
      slot 15 = ([0, 0, 7, 7], some 0) ∧ slot 16 = ([7, 7, 7, 7], some 1)) ∧
     readByte (reset 0 (.slipWrite 0 0x0801000 (List.replicate 64 7))).mem 0x0801008 = 0) := by decide +kernel

/-- The attention output and the lowest pending notice, and the lamp output. -/
theorem test_outputs :
    (attention { flags := 0x101, enables := 0x0FE } = false ∧ lowestPending { flags := 0x101, enables := 0x0FE } = none) ∧
    (attention { flags := 0x181, enables := 0x1FE } = true ∧ lowestPending { flags := 0x181, enables := 0x1FE } = some 7) ∧
    lampOn { lamp := .off } = false ∧ lampOn { lamp := .warming } = true ∧ lampOn { lamp := .ready } = true := by decide +kernel

theorem test_witness_DeskAccessesAreHeldAndGranted :
    desk.desk.access = none ∧ (held (reads 0)).desk.access = some (reads 0) ∧
    ([reads 0x0434FF4, writes 0x0434FF4 15 0, writes 0x0441EB0 15 0, writes 0x0802010 15 7].map fun x =>
      (decide ((held x).inReset = false), decide ((held x).unit = none), nextRequest (held x), decide ((held x).desk.access = some x),
        classify (held x) x)) =
      [(true, true, some .desk, true, .unit (.forward .plain)), (true, true, some .desk, true, .trailerDrop),
        (true, true, some .desk, true, .collisionDrop 3), (true, true, some .desk, true, .statusDrop)] := by decide +kernel

/-- A line entry of picture 3. -/
def entry (n : Nat) : LineEntry := { scanId := 41, pic := 3, line := n, bytes := [7, 8, 9], heldRef := true, lineTime := 1000000 }

/-- Both line buffers are FULL, buffer 1 first. -/
def full : State := { desk with pipe := { desk.pipe with buffers := #v[some (entry 241), some (entry 240)], older := 1 } }

/-- Buffer 0 alone is FULL, with line `n`. -/
def oneFull (n : Nat) (s : State) : State := { s with pipe := { s.pipe with buffers := #v[some (entry n), none] } }

/-- A failed line of picture 3. -/
def failure (trailer : Nat) : LineFailure := { pic := 3, line := 200, trailer := trailer }

/-- Port 0 waits for a line of picture 3. -/
def waits (n : Nat) (form : WaitForm) (s : State) : State := port0 (fun q => { q with wait := some { pic := 3, line := n, form := form } }) s

/-- A slip of port 0. -/
def slip (o : SlipOutcome) : Slip :=
  { jobId := 57, port := 0, pic := 3, tag := 0, dest := [], outcome := o, detail := 0, prio := 3, bumped := false, planned := 1000
    deliveredLines := 0, farRpm := 0, farIoc := 0, counts := {} }

/-- The slip writer has a slip to write. -/
def slipPending (o : SlipOutcome) (s : State) : State := judgeWriter { s with composer := { s.composer with pending := [slip o] } }

/-- Status records are flagged. -/
def flagged (i : Fin 27) (s : State) : State := { s with status := { s.status with changed := s.status.changed.set i true } }

theorem test_witness_GrantGoesToTheHighestLevel :
    nextRequest { full with desk := { access := some (reads 0) } } = some .scanWriter ∧
    nextRequest (oneFull 240 (held (reads 0))) = some .desk ∧ anyFull (oneFull 240 (held (reads 0))).pipe = true ∧
    nextRequest (oneFull 240 desk) = some .scanWriter ∧ nextRequest (waits 200 .fetching desk) = some (.lineFetch 0) ∧
    nextRequest desk = none ∧ (busy (.setupPart 1) desk).unit.isSome = true := by decide +kernel

theorem test_witness_GrantStartsTheUnitAskedFor :
    (let h : Hand := { slot := 0, addr := 0x0800000 }
     let c : CaptionRead := { which := 0, first := 0x0800080, len := 2, slotAddr := 0x0800080 }
     let reader (h : Hand) : State := { desk with intake := { hand := some h } }
     nextRequest (reader h) = some .intakeReader ∧
     nextRequest (reader { h with phase := .caption, todo := [c] }) = some .intakeReader ∧
     nextRequest (reader { h with phase := .answering }) = some .intakeReader) ∧
    nextRequest { desk with loader := { phase := .reading 1 } } = some .setupLoader ∧
    nextRequest { desk with loader := { phase := .answering [1, 0, 0, 0] } } = some .setupLoader ∧
    (nextRequest (slipPending .short desk) = some .slipWriter ∧ (slipPending .short desk).composer.pending = [slip .short] ∧
      (slipPending .short desk).composer.nextSerial = some 0 ∧ slipsBase desk = some 0x0801000) ∧
    nextRequest { desk with trailers := [failure 0] } = some .trailerWriter ∧
    (nextRequest full = some .scanWriter ∧ full.pipe.buffers[full.pipe.older] = some (entry 240)) ∧
    (nextRequest (oneFull 240 desk) = some .scanWriter ∧ (oneFull 240 desk).pipe.buffers[0] = some (entry 240)) ∧
    statusBase desk = some 0x0802000 ∧ nextRequest (flagged 0 desk) = some .statusWriter ∧
    nextRequest (flagged 26 desk) = some .statusWriter ∧ (flagged 26 desk).status.changed[26] = true ∧
    (∀ j : Fin 27, j < 26 → (flagged 26 desk).status.changed[j] = false) ∧ desk.inReset = false ∧ desk.unit = none ∧
    ({ slip .short with dest := List.replicate 8 0x39 } : Slip).dest.length = 8 ∧ desk.loadResult.length = 4 ∧
    desk.store.latch = none := by
  decide +kernel

/-- A slip is 64 bytes; a count beyond its field stands at the field's greatest value. -/
theorem test_slip_bytes :
    (let bs := slipBytes 258 { slip .carrierLost with dest := List.replicate 8 0x39, bumped := true, farRpm := 256 }
     bs.length = 64 ∧ bytesAt bs 0 24 = [1, 0, 0, 0, 2, 1, 0, 0, 57, 0, 0, 3, 0, 0, 0, 0] ++ List.replicate 8 0x39 ∧
     bytesAt bs 24 4 = [15, 0, 3, 8] ∧ bytesAt bs 36 2 = [0xE8, 3] ∧ byteAt bs 49 = 255) := by decide +kernel

/-- A status record write of the drum record carries its bytes and its count. -/
theorem test_status_grant :
    (after (.arbiterGrant 5) (flagged 3 { desk with drum := { desk.drum with duty := 0x204 } })).unit =
      some (.statusWrite 3 0x0802030 ([0, 0, 0, 0, 0, 0, 0, 0, 4, 2, 0, 0, 0, 0, 0, 0, 255, 255, 255, 255] ++ List.replicate 11 0) 1) := by
  decide +kernel

theorem test_witness_DeskAccessesAreClassified :
    (windowAt windows 0x0802000).map (·.kind) = some .status ∧ (windowAt windows 0x0803FFC).map (·.kind) = some .status ∧
    windowAt windows 0x0804000 = none ∧ (windowAt windows 0x0800F80).map (·.kind) = some .jobs ∧
    (windowAt windows 0x0801000).map (·.kind) = some .slips ∧ (windowAt windows 0x07FFFFC).map (·.kind) = some .picture ∧
    classify desk (writes 0x0800F80 15 1) = .unit (.forward (.post 31)) ∧
    classify desk (writes 0x0800F80 15 2) = .unit (.forward .plain) ∧
    classify desk (writes 0x0801240 15 1) = .unit (.forward .plain) ∧ classify desk (writes 0x0802000 0 1) = .unit (.forward .plain) ∧
    (slotAt desk.cfg.slots 0x0400000 = some (3, 0) ∧ slotAt desk.cfg.slots 0x07FFFFC = some (3, 0x3FFFFC)) ∧
    (slotAt (Vector.replicate 16 {}) 0x0400000 = none) ∧ (pic3 {} desk).pics[(3 : Fin 16)].state = .empty ∧
    (classify desk (writes 0x3FA0000 15 1) = .unit (.forward .load) ∧
      classify desk (writes 0x3FA0000 1 1) = .unit (.forward .plain) ∧
      classify desk (writes 0x3FA0008 2 0x1FF) = .unit (.forward (.clear 0x100)) ∧
      classify desk (writes 0x3FAFFFC 15 1) = .unit (.forward .plain)) := by decide +kernel

/-- R33's cases at their bounds: line 239 and 240 about the mark 240, the trailers, line 3883 after the last whole line. -/
theorem test_witness_dispositions :
    [(239 * 1080, Disposition.upkeep 239), (240 * 1080 - 8, .upkeep 239), (240 * 1080 - 4, .trailerDrop), (240 * 1080, .collisionDrop),
      (3883 * 1080 - 4, .trailerDrop), (3883 * 1080, .plain)].all (fun x => dispose scanned 0x400000 x.1 = x.2) = true ∧
    dispose complete 0x400000 (1000 * 1080) = .plain ∧ dispose complete 0x400000 (999 * 1080) = .upkeep 999 := by decide +kernel

theorem test_witness_LineFetchGrantFillsAWay :
    (let s := waits 200 .fetching desk
     s.inReset = false ∧ s.unit = none ∧ nextRequest s = some (.lineFetch 0) ∧
     s.ports[0].wait = some { pic := 3, line := 200, form := .fetching } ∧ chooseWay s.store.sets[setIndex 3 200] = some false) ∧
    (let free : Way := { state := .valid }
     let pinned : Way := { state := .valid, pins := #v[true, false, false, false] }
     chooseWay { way0 := {}, way1 := free } = some false ∧ chooseWay { way0 := free, way1 := {} } = some true ∧
     chooseWay { way0 := free, way1 := free, lru := true } = some true ∧
     chooseWay { way0 := free, way1 := pinned, lru := true } = some false ∧
     chooseWay { way0 := pinned, way1 := { state := .filling } } = none) := by decide +kernel

theorem test_witness_ForwardedUnitsEnd :
    (busy (.desk (reads 0) (.forward .plain)) desk).inReset = false ∧ Memory.wf ([(3, 1), (4, 2)] : Memory) = true ∧
    (reads 0).write = false ∧ (writes 0 15 0).write = true := by decide +kernel

/-- The ends of a read, of a posting and of a taken slip slot. -/
theorem test_forwarded_units :
    (after (.deskRead 5) (busy (.desk (reads 6) (.forward .plain)) { desk with mem := [(4, 1), (7, 2)] })).desk.data = 0x02000001 ∧
    (after (.deskWrite 5) (busy (.desk (writes 6 4 0x00AA0000) (.forward .plain)) desk)).mem = [(6, 0xAA)] ∧
    (after (.postWordWrite 5) (busy (.desk (writes 0x0800280 15 1) (.forward (.post 5))) desk)).intake.queue = [5] ∧
    (after (.markWordWrite 5) (busy (.desk (writes 0x0801240 15 0) (.forward (.mark 9))) desk)).composer.filled.contains true = false ∧
    (after (.loadWordWrite 5) (busy (.desk (writes 0x3FA0000 15 1) (.forward .load)) desk)).loader.phase = .reading 1 ∧
    (after (.clearWordWrite 5) (busy (.desk (writes 0x3FA0008 15 128) (.forward (.clear 128)))
      { desk with notice := { flags := 0x1FF } })).notice.flags = 0x17F := by decide +kernel

/-- The check upkeep unit of the example of chapter 1. -/
def upkeep : State :=
  busy (.desk (writes 0x0434FF0 15 0) (.upkeep 3 200 0x0434BC0 1080 1074))
    { desk with
      mem := [(0x0434FF0, 200), (0x0434FF1, 180), (0x0434FF4, 0x40), (0x0434FF5, 0x9C), (0x0434FF6, 0xC8), (0x0434FF7, 1)] }

theorem test_witness_UpkeepUnitWritesDataAndTrailer :
    upkeep.inReset = false ∧ Memory.wf upkeep.mem = true ∧ 0x0434BC0 % 4 = 0 ∧ 1080 % 4 = 0 ∧ 0x0434BC0 + 1080 ≤ 2 ^ 26 ∧
    0x0434BC0 ≤ wordAddr (writes 0x0434FF0 15 0) ∧ wordAddr (writes 0x0434FF0 15 0) + 4 ≤ 0x0434BC0 + 1080 - 4 := by decide +kernel

/-- What that unit leaves: check 39620, ALTERED; the write is counted. -/
theorem test_upkeep_unit :
    let s := after (.checkUpkeepUnitEnd 5 [0, 0, 0, 0]) upkeep
    s.mem = [(0x0434FF4, 0xC4), (0x0434FF5, 0x9A), (0x0434FF6, 0xC8), (0x0434FF7, 5)] ∧ s.pics[(3 : Fin 16)].alteredWrites = 1 ∧
    s.unit = none := by decide +kernel

/-- The frame a PICTURE line of picture 3 goes out in. -/
def tones : Tones := { white := 1500, black := 2300 }

/-- Who is told of a retouch of the first word of line 200: the staged copy, the frame in transfer from the code it has come to, a
session that has handed the line on, one beyond its band, and a saved context. -/
theorem test_witness_UpkeepUnitIsTold :
    (let unit : BusUnit := .desk (writes 0x0434BC0 15 0x04030201) (.upkeep 3 200 0x0434BC0 1080 1074)
     let w : Way := { state := .valid, pic := 3, line := 200, bytes := [9, 9, 9, 9, 9] }
     let run (x : Session) (composed : Nat) : State :=
       let s := sends x desk
       let s := { s with store := { s.store with sets := s.store.sets.set 7 { way1 := w } } }
       let f : Frame := .picture (some 3) 200 tones 1000000 [9, 9, 9, 9, 9]
       let c : Context := { job := job, nextBand := 13, firstSent := 0, counts := {}, parity := 0, farRpm := none, farIoc := none }
       after (.checkUpkeepUnitEnd 5 [composed, 0, 0, 0])
         (busy unit (port0 (fun q => { q with contexts := [c, { c with nextBand := 12 }], link := { q.link with transfer := some { frame := f } } }) s))
     let told (s : State) : Bool × Nat × List Nat :=
       (s.ports[0].session.stale, s.ports[0].session.counts.alterations, s.ports[0].contexts.map (·.counts.alterations))
     let sending (band : Nat) (last : Option Nat) : Session := { state := .sending, band := band, lastHanded := last }
     (run (sending 12 (some 200)) 2).inReset = false ∧
     stagedBytes (run (sending 12 (some 200)) 2).store 3 200 = some [1, 2, 3, 4, 9] ∧
     (run (sending 12 (some 200)) 2).ports[0].link.transfer.map (·.frame) = some (.picture (some 3) 200 tones 1000000 [9, 9, 3, 4, 9]) ∧
     told (run (sending 12 (some 200)) 0) = (true, 0, [1, 0]) ∧ told (run (sending 12 (some 199)) 0) = (false, 0, [1, 0]) ∧
     told (run (sending 13 none) 0) = (false, 1, [1, 0]) ∧ told (run (sending 11 (some 191)) 0) = (false, 0, [1, 0]) ∧
     told (run { state := .slipWait, band := 13 } 0) = (false, 0, [1, 0])) := by decide +kernel

theorem test_witness_UnitsStoreTheirBytes :
    Memory.wf ([] : Memory) = true ∧ (List.replicate 64 (7 : Byte)).length = 64 ∧ (List.replicate 4096 (7 : Byte)).length ≤ 4096 ∧
    2 ^ 26 - 4 + 4 ≤ 2 ^ 26 := by decide +kernel

theorem test_witness_AnswerWritesEnd :
    (after (.resultWordWriteEnd 5) (busy (.resultWrite 0x0800004 [1, 0, 57, 0]) desk)).mem = [(0x0800004, 1), (0x0800006, 57)] ∧
    (after (.loadResultWriteEnd 5) (busy (.loadResult [1, 1, 0, 0]) desk)).mem = [(0x3FA0004, 1), (0x3FA0005, 1)] ∧
    (after (.statusRecordWriteEnd 5) (busy (.statusWrite 0 0x0802000 (List.replicate 15 0) 9) desk)).mem = [(0x080200F, 9)] := by
  decide +kernel

/-- A slip record write into slot 0 is in progress. -/
def slipUnitOf (o : SlipOutcome) : State :=
  busy (.slipWrite 0 0x0801000 (slipBytes 0 (slip o))) (port0 (fun q => { q with session := { state := .slipWait } }) (slipPending o desk))

theorem test_witness_SlipRecordWriteEnds :
    (slipUnitOf .short).inReset = false ∧ (slipUnitOf .short).composer.pending = [slip .short] ∧
    (slipUnitOf .short).composer.nextSerial = some 0 ∧ (slip .short).outcome ≠ .abortedUnsent ∧
    (after (.slipRecordWriteEnd 5) (slipUnitOf .short)).ports[0].session.state = .idle ∧
    (after (.slipRecordWriteEnd 5) (slipUnitOf .abortedUnsent)).ports[0].session.state = .slipWait ∧
    (after (.slipRecordWriteEnd 5) (slipUnitOf .short)).composer.nextSerial = some 1 := by decide +kernel

theorem test_witness_TrailerFlagUnitEnds :
    (busy (.trailerFlag (failure 8)) desk).inReset = false ∧ desk.store.heldFailure = none ∧
    (let list := (List.range 9).map failure
     ((list.take 8).filter fun g => g.trailer ≠ 8).length = 8 ∧ ((list.take 8).filter fun g => g.trailer ≠ 7).length < 8) ∧
    (after (.trailerFlagUnitEnd 5) (busy (.trailerFlag (failure 8)) { desk with
      trailers := [failure 8], store := { desk.store with heldFailure := some (failure 12) } })).trailers = [failure 12] := by
  decide +kernel

/-- A scan line write of the entry in buffer 0. -/
def lineUnit (n : Nat) (s : State) : State := busy (.scanLine 0 0x0441E00) (oneFull n (running s))

theorem test_witness_ScanLineWritesEnd :
    (lineUnit 239 desk).pipe.buffers[0] = some (entry 239) ∧ (lineUnit 239 desk).pics[(3 : Fin 16)].mark ≠ 239 ∧
    (lineUnit 240 desk).pipe.scanId = some 41 ∧ (lineUnit 240 desk).pics[(3 : Fin 16)].state = .scanning ∧
    (lineUnit 240 desk).pics[(3 : Fin 16)].mark = 240 ∧
    (after (.scanLineWriteEnd 5) (lineUnit 240 desk)).pics[(3 : Fin 16)].mark = 241 ∧
    (let s := after (.scanLineWriteEnd 5) (lineUnit 240 (pic3 { scanned with lines := 241 } desk))
     s.pics[(3 : Fin 16)].state = .complete ∧ s.pipe.state = .idle ∧ s.drum.scanHeld = false ∧ s.notice.flags = 8) := by
  decide +kernel

/-- A VALID way with this line of picture 3, pinned by port 0 or not. -/
def way (n : Nat) (pinned : Bool) : Way := { state := .valid, pic := 3, line := n, bytes := [1, 2], pins := #v[pinned, false, false, false] }

/-- The set of lines 184, 200, 216 of picture 3 (number 7) holds these ways. -/
def set7 (w0 w1 : Way) (s : State) : State := { s with store := { s.store with sets := s.store.sets.set 7 { way0 := w0, way1 := w1 } } }

theorem test_witness_LinesAreInstalled :
    setIndex 3 200 = 7 ∧ findWay .valid 3 200 { way0 := way 184 true, way1 := way 200 false } = some true ∧
    (findWay .valid 3 216 { way0 := way 184 true, way1 := way 200 true } = none ∧
      chooseWay { way0 := way 184 true, way1 := way 200 true } = none) ∧
    chooseWay { way0 := way 184 true, way1 := way 200 false } = some true ∧
    (installLine 3 216 [9] (waits 216 .fetching (set7 (way 184 true) (way 200 false) desk))).store.sets[7] =
      { way0 := way 184 true, way1 := { way 216 true with bytes := [9] } } := by decide +kernel

/-- A line fetch for port 0 of line 200, whose line and trailer stand in memory. -/
def fetch (dropped : Bool) (trailer : List Byte) : State :=
  busy (.lineFetch 0 3 200 true 0x0434BC0 12 6 dropped)
    (waits 200 .granted (set7 (way 184 true) { state := .filling, pic := 3, line := 200 } { desk with
      mem := applyAccesses [] [accessOf 0x0434BC0 [1, 2, 3, 4, 5, 6], accessOf 0x0434BC8 trailer] }))

theorem test_witness_LineFetchEnds :
    (fetch true []).inReset = false ∧
    (let s := after (.lineFetchEnd 5) (fetch true [])
     s.store.sets[7].way1.state = .invalid ∧ s.ports[0].wait = some { pic := 3, line := 200, form := .fetching }) ∧
    (let s := after (.lineFetchEnd 5) (fetch false [21, 0, 200, 1])
     s.store.sets[7].way1 = { way 200 true with bytes := [1, 2, 3, 4, 5, 6] } ∧ s.store.checkErrors = 0 ∧ s.ports[0].wait = none) ∧
    (let s := after (.lineFetchEnd 5) (fetch false [22, 0, 200, 1])
     s.store.checkErrors = 1 ∧ s.store.latch = some (failure 0x0434BC8) ∧ s.trailers = [failure 0x0434BC8] ∧
     s.ports[0].session.counts.suspect = 1 ∧ s.notice.flags = 64) := by decide +kernel

theorem test_witness_PortsHearOfTheScan :
    conducts 3 (sends { state := .standby, live := .member } desk).ports[0] = true ∧ conducts 3 desk.ports[0] = false ∧
    conducts 4 (sends { state := .standby } desk).ports[0] = false ∧
    (lineReady 3 240 999 0 (sends { state := .standby, live := .member } desk)).ports[0].lineTimes = [(240, 999)] ∧
    (joinLive 0 (sends { state := .standby, live := .candidate } desk)).ports[0].session.live = .member ∧
    (orderOut 0 (sends { state := .standby, live := .member } desk)).ports[0].session.counts.leftLive = true ∧
    (orderOut 0 (sends { state := .phasing, live := .candidate } desk)).ports[0].session.counts.leftLive = false ∧
    (let s := pic3 { scanned with state := .cut, cause := .aborted } (sends { state := .sending, live := .member, nextLine := 16, bandEnd := 31 } desk)
     s.pics[(3 : Fin 16)].state = .cut ∧
     (tellScanEnd 3 0 (pic3 { scanned with state := .cut, mark := 20 } s)).ports[0].session.bandEnd = 19) ∧
    (tellScanEnd 3 0 (pic3 complete (sends { state := .phasing, live := .candidate } desk))).ports[0].session.live = .none := by
  decide +kernel

/-- A pass of band 12 (lines 192 to 207) of picture 3 at line 200. -/
def pass : Session := { state := .sending, band := 12, nextLine := 200, bandEnd := 207 }

theorem test_witness_PortsStageAndHand :
    (sends pass desk).ports[0].session.job = some job ∧
    (stageLine 0 0 (set7 (way 184 false) (way 200 false) (sends pass desk))).store.sets[7] =
      { way0 := way 184 false, way1 := way 200 true, lru := false } ∧
    (stageLine 0 0 (sends pass desk)).ports[0].wait = some { pic := 3, line := 200, form := .fetching } ∧
    (stageLine 0 0 (set7 { way 200 false with state := .filling } {} (sends pass desk))).ports[0].wait =
      some { pic := 3, line := 200, form := .joined } ∧
    stageLine 0 0 (sends { pass with nextLine := 240, bandEnd := 255 } desk) = sends { pass with nextLine := 240, bandEnd := 255 } desk ∧
    stageLine 0 1 (sends { pass with nextLine := 207 } desk) = sends { pass with nextLine := 207 } desk ∧
    (let own (asked : Nat) : State := set7 (way 184 false) (way 200 true) (sends { pass with asked := asked } desk)
     (stageLine 0 0 (own 200)).store.sets[7] = { way0 := way 184 false, way1 := way 200 true, lru := false } ∧
     (stageLine 0 0 (own 200)).ports[0].session.asked = 201 ∧ stageLine 0 0 (own 201) = own 201) ∧
    (stageLine 0 0 (sends { pass with asked := 201 } desk)).ports[0].wait.isSome = true ∧
    nextFrame (set7 (way 184 false) (way 200 true) (sends pass desk)) 0 = some (.picture (some 3) 200 tones 1000000 [1, 2]) ∧
    nextFrame (sends pass desk) 0 = none ∧
    (let first (n : Nat) : State :=
       let s := port0 (fun q => { q with bandCheck := 5 }) (sends { pass with nextLine := n } desk)
       pump 0 { s with store := { s.store with sets := s.store.sets.set (setIndex 3 n) { way0 := way n true } } }
     (first 192).ports[0].bandCheck = 0 ∧ (first 193).ports[0].bandCheck = 5 ∧ (first 193).ports[0].link.transfer.isSome = true) ∧
    nextFrame (sends { pass with nextLine := 208 } desk) 0 = some (.trailer 12 16 0 1000000) ∧
    (pump 0 (sends { pass with nextLine := 208 } desk)).ports[0].link.transfer = some { frame := .trailer 12 16 0 1000000 } := by
  decide +kernel

/-- A TEXT waits for both units, and a handed TEXT leaves room for none. -/
theorem test_witness_units :
    (let s := sends { state := .caption } desk
     nextFrame s 0 = some (.text 0 [0x41, 0x42] 3 0) ∧ (pump 0 s).ports[0].link.transfer.isSome = true ∧
     (pump 0 (port0 (fun q => { q with link := { q.link with outstanding := [.standby] } }) s)).ports[0].link.transfer = none) ∧
    nextFrame (sends { state := .phasing, phasingHanded := 20 } desk) 0 = none ∧
    nextFrame (sends { state := .phasing, phasingHanded := 19 } desk) 0 = some (.phasing 20 tones 1000000 1074) ∧
    nextFrame (sends { state := .held } desk) 0 = some (.standby tones 1000000 1074) ∧
    nextFrame (sends { state := .calling, wishes := [.call] } desk) 0 = some (.call false 0 1000000) ∧
    nextFrame (sends { state := .closing } desk) 0 = none ∧
    captionCheck { crc := true } [0x41, 0x42] = 0x61B0 ∧ captionCheck {} [0x41, 0x42] = 3 := by decide +kernel

theorem test_witness_BandsStart :
    (sends { state := .quiet, band := 15 } desk).ports[0].session.job = some job ∧
    (let b (r : PictureRecord) (live : LiveStatus) (band : Nat) : SessionState × Nat :=
       let x := (bandStart 0 (pic3 r (sends { state := .quiet, live := live, band := band } desk))).ports[0].session
       (x.state, x.bandEnd)
     let cut : PictureRecord := { scanned with state := .cut, cause := .aborted }
     b cut .none 15 = (.closing, 0) ∧ b { cut with mark := 241 } .none 15 = (.sending, 240) ∧ b cut .none 14 = (.sending, 239) ∧
     b scanned .member 14 = (.sending, 239) ∧ b scanned .member 15 = (.standby, 0) ∧ b scanned .none 14 = (.sending, 239) ∧
     b { scanned with mark := 239 } .none 14 = (.standby, 0) ∧ b { scanned with mark := 239 } .member 14 = (.sending, 239) ∧
     b complete .none 62 = (.sending, 999)) := by decide +kernel

theorem test_witness_SessionsEnd :
    (let q : Pipeline := { state := .running, candidates := #v[some false, none, none, none]
                           hold := some [{ port := 0 }, { port := 1, count := some 1 }] }
     q.state ≠ .idle ∧ q.candidates[(0 : Fin 4)] ≠ none ∧ (reportPhased 0 q).candidates[(0 : Fin 4)] = some true ∧
     q.candidates[(1 : Fin 4)] = none ∧
     (reportTrailerPlayed 0 q).hold = some [{ port := 0, count := some 0 }, { port := 1, count := some 1 }] ∧
     (reportDone 0 q).hold = some [{ port := 1, count := some 1 }] ∧ (reportDone 1 (reportDone 0 q)).hold = none ∧
     reportDone 2 { q with hold := none } = { q with hold := none }) ∧
    ({} : Pipeline).state = .idle := by decide +kernel

/-- Port 0's link in this state. -/
def linked (l : Link) (s : State) : State := port0 (fun q => { q with link := l }) s

theorem test_witness_LinesAreReleased :
    (let ending (x : Session) : State := linked {} (sends { x with state := .releasing } desk)
     let frames (l : Link) : Option Frame × List Frame :=
       let y := (releaseLine 0 true (linked l desk)).ports[0].link
       (y.transfer.map (·.frame), y.frames)
     frames { state := .dialling } = (some .release, []) ∧ frames { state := .connected } = (some .flush, [.release]) ∧
     frames { state := .connected, transfer := some { frame := .standby tones 1 1 } } = (some (.standby tones 1 1), [.flush, .release]) ∧
     releaseLine 0 true (linked { state := .releasing } desk) = linked { state := .releasing } desk ∧
     (askFlush { state := .connected, outstanding := [.standby] }) =
       { state := .connected, outstanding := [], flushing := true, transfer := some { frame := .flush } } ∧
     (askFlush { state := .connected, transfer := some { frame := .standby tones 1 1 } }).transfer =
       some { frame := .standby tones 1 1, dropped := true } ∧
     askFlush { state := .dialling } = { state := .dialling } ∧
     (releaseComplete 0 (ending { outcome := some { outcome := .short } })).ports[0].session.state = .slipWait ∧
     (releaseComplete 0 (ending { ending := .parted, band := 5 })).ports[0].session.band = 5 ∧
     (releaseComplete 0 (ending { ending := .bumped })).ports[0].session.state = .idle ∧
     releaseComplete 0 desk = desk) := by decide +kernel

theorem test_witness_SlipsAreComposed :
    (slip .short).outcome ≠ .abortedUnsent ∧ desk.ports[0].session.state = .idle ∧ desk.ports[0].active = none ∧
    (compose (slip .short) desk).ports[0].session.state = .slipWait ∧ (compose (slip .short) desk).notice.flags = 0 ∧
    (compose (slip .abortedUnsent) desk).ports[0].session.state = .idle ∧
    (compose (slip .abortedUnsent) desk).notice.flags = 32 ∧ (compose (slip .short) desk).pics[(3 : Fin 16)].refs = 1 := by
  decide +kernel

/-- A saved context of picture 3. -/
def context (prio : Nat) : Context :=
  { job := { job with id := 50, prio := prio }, nextBand := 5, firstSent := 80, counts := {}, parity := 1, farRpm := some 60
    farIoc := some 352 }

theorem test_witness_PortsSelect :
    (let queued (s : State) : State := port0 (fun q => { q with queue := [job] }) s
     let saved (prio : Nat) (s : State) : State := port0 (fun q => { q with contexts := [context 1, context prio] }) s
     (select 0 (queued desk)).ports[0].active = some { job := job, begun := true } ∧
     (select 0 (saved 2 (queued desk))).ports[0].session.resumed = false ∧
     (select 0 (saved 3 (queued desk))).ports[0].session.resumed = true ∧
     (select 0 (saved 3 desk)).ports[0].contexts = [context 1] ∧ select 0 desk = desk ∧
     select 0 (port0 (fun q => { q with hold := true }) (queued desk)) = port0 (fun q => { q with hold := true }) (queued desk) ∧
     (select 0 (queued desk)).ports[0].link.transfer = some { frame := .seize [1, 2] } ∧
     (startContext 0 (context 1) (pic3 { complete with state := .cut, mark := 80 } desk)).ports[0].session.outcome =
       some { outcome := .short } ∧
     (startContext 0 (context 1) (pic3 { complete with state := .cut, mark := 81 } desk)).ports[0].session.state = .seizing ∧
     select 0 (slipPending .short (queued desk)) = slipPending .short (queued desk) ∧
     (let waiting (hold : Bool) (s : State) : State :=
        port0 (fun q => { q with hold := hold, active := some { job := job, begun := false } }) s
      (beginOrSelect 0 (waiting false desk)).ports[0].session.state = .seizing ∧
      (beginOrSelect 0 (waiting true desk)).ports[0].session.state = .seizing ∧
      (beginOrSelect 0 (slipPending .short (waiting false desk))).ports[0].session.state = .idle)) := by decide +kernel

/-- A frame of this kind is in transfer on port 0. -/
def moving (x : Transfer) (s : State) : State := port0 (fun q => { q with link := { q.link with transfer := some x } }) s

theorem test_witness_FrameTransfersEnd :
    (let f : Frame := .picture (some 3) 200 tones 1000000 [1, 2]
     let s := moving { frame := f } (set7 (way 184 false) (way 200 true) (sends pass desk))
     let t := after (.frameTransferEnd 5 0) s
     s.inReset = false ∧ s.ports[0].link.transfer = some { frame := f } ∧
     t.ports[0].link.outstanding = [.picture 200] ∧ t.ports[0].bandCheck = 3 ∧ t.ports[0].session.nextLine = 201 ∧
     t.ports[0].session.counts.firstSent = 1 ∧ t.store.sets[7].way1 = way 200 false ∧
     t.ports[0].link.lastFrame.length = 8 + 2 * 34 + 1) ∧
    (let f : Frame := .picture (some 3) 200 tones 1000000 [1, 2]
     let s := moving { frame := f, dropped := true } (sends { pass with state := .quiet, firstSent := 201 } desk)
     let t := after (.frameTransferEnd 5 0) s
     t.ports[0].link.outstanding = [] ∧ t.ports[0].session.nextLine = 200 ∧ t.ports[0].session.counts.repeated = 1 ∧
     t.ports[0].bandCheck = 3) ∧
    (let f : Frame := .picture none 200 tones 1000000 [1, 2]
     let t := after (.frameTransferEnd 5 0) (moving { frame := f, dropped := true, orphan := true } (sends pass desk))
     t.ports[0].bandCheck = 3 ∧ t.ports[0].session.counts = {} ∧ t.ports[0].session.nextLine = 200 ∧
     t.ports[0].link.lastFrame.length = 77) := by
  decide +kernel

/-- The bytes of frames. -/
theorem test_frame_bytes :
    frameBytes (.picture none 513 tones 1000000 [0, 255]) =
      [3, 1, 0x40, 0x42, 0x0F, 0, 34, 0] ++ (List.replicate 33 [0xDC, 5]).flatten ++ [0xFC, 8, 1] ∧
    frameBytes (.trailer 12 16 0x61B0 1000000) = [3, 5, 0x40, 0x42, 0x0F, 0, 0, 0, 12, 16, 0xB0, 0x61] ∧
    frameBytes (.text 3 [0x41] 0x30C0 2) = [4, 3, 1, 0x41, 0xC0, 0x30, 2] := by decide +kernel

/-- The hand-over of the other kinds of item. -/
theorem test_hand_over :
    (let t (f : Frame) (x : Session) : Session := (after (.frameTransferEnd 5 0) (moving { frame := f } (sends x desk))).ports[0].session
     (t (.text 0 [1, 2] 3 0) { state := .caption }).counts.captionBytes = 2 ∧
     (t (.phasing 7 tones 1 1) { state := .phasing }).phasingHanded = 7 ∧
     (t (.standby tones 1 1) { state := .held }).counts.standby = 1 ∧
     (t (.trailer 0 16 0 1) { state := .sending }).state = .awaitVerdict ∧
     (t .flush { state := .quiet }).state = .quiet) := by decide +kernel

theorem test_witness_LinkReportsAreTaken :
    (let dialling := linked { state := .dialling } (sends { state := .seizing } desk)
     (after (.up 5 0) dialling).ports[0].session.state = .calling ∧
     (after (.up 5 0) dialling).ports[0].link.transfer = some { frame := .mode false 1500 2300 } ∧
     (after (.fail 5 0 .noDialtone) dialling).ports[0].session.outcome = some { outcome := .lineFailed, detail := 3 } ∧
     (after (.up 5 0) desk).ports[0].session.state = .idle) ∧
    (let s (l : Link) (x : Session) : State := linked { l with state := .connected } (sends x desk)
     let x (c : Instr) (y : State) : Session := (after c y).ports[0].session
     (after (.doneItem 5 0) (s { outstanding := [.standby, .standby] } { state := .held })).ports[0].link.outstanding = [.standby] ∧
     (after (.doneItem 5 0) (s { outstanding := [.standby], flushing := true } {})).ports[0].link.outstanding = [.standby] ∧
     (after (.doneFlush 5 0) (s { flushing := true } {})).ports[0].link.flushing = false ∧
     (x (.slack 5 0) (s {} {})).counts.slack = 1 ∧ (x (.heard 5 0 5 39 []) (s {} { state := .standby })).counts.noise = 1 ∧
     (x (.heard 5 0 9 40 []) (s {} { state := .standby })).counts.noise = 1 ∧
     (x (.dropCarrier 5 0) (s {} { state := .sending })).outcome = some { outcome := .carrierLost } ∧
     (x (.dropCarrier 5 0) (s {} { state := .closing })).outcome = some { outcome := .short } ∧
     (x (.dropCarrier 5 0) (s {} { state := .parting })).resumed = true ∧
     x (.reportDiscarded 5 0 []) (s {} { state := .sending }) = { state := .sending, job := some job }) ∧
    (let s := linked { state := .releasing, releaseTimer := some 9 } (sends { state := .releasing, outcome := some { outcome := .short } } desk)
     (after (.dropOnHook 5 0) s).ports[0].session.state = .slipWait ∧
     (after (.releaseTimerExpiry 9 0) s).ports[0].session.state = .slipWait ∧
     (after (.releaseTimerExpiry 8 0) s).ports[0].session.state = .releasing) := by decide +kernel

theorem test_witness_PlayedItemsAreTold :
    (let x (i : Item) (y : Session) : Session := (itemPlayed 0 i (sends y desk)).ports[0].session
     (x .text { state := .caption }).state = .phasing ∧ (x (.phasing 20) { state := .phasing }).state = .awaitPhased ∧
     (x (.phasing 19) { state := .phasing }).state = .phasing ∧
     (x (.trailer true) { state := .awaitVerdict }).timer = some { kind := .verdict, expiry := 3000000 } ∧
     (x (.trailer false) { state := .awaitVerdict }).timer = none ∧
     (x (.query true) { state := .awaitVerdict }).timer = some { kind := .verdict, expiry := 3000000 } ∧
     (x .close { state := .closing }).timer = some { kind := .receipt, expiry := 10000000 } ∧
     (x .closePart { state := .parting }).state = .releasing) ∧
    (let s (urgent hold : Bool) (live : LiveStatus) : State :=
       port0 (fun q => { q with queue := [{ job with prio := if urgent then 4 else 3 }], preempt := true, hold := hold })
         (sends { state := .standby, live := live } desk)
     requestStands (s true false .none).ports[0] = true ∧ requestStands (s false false .none).ports[0] = false ∧
     (boundary 0 id (s true true .none)).ports[0].session.state = .parting ∧
     (boundary 0 id (s false true .none)).ports[0].session.state = .held ∧
     (boundary 0 id (s false true .member)).ports[0].session.counts.leftLive = true ∧
     (boundary 0 id (s false true .candidate)).ports[0].session.live = .candidate ∧
     (boundary 0 id (s false false .none)).ports[0].session.state = .standby ∧
     (boundary 0 id (s false false .none)).ports[0].preempt = false) ∧
    requestStands desk.ports[0] = false := by decide +kernel

theorem test_witness_FarSignalsAreTaken :
    (sends {} desk).inReset = false ∧ (sends {} desk).ports[0].link.state = .connected ∧ BitVec.toNat (120 : Byte) ∈ [60, 90, 120] ∧
    BitVec.toNat (999999 : BitVec 32) ≤ 999999 ∧ signalOf 1 [60, 0x60, 1, 1] = some (.ready 60 352 true) ∧
    signalOf 1 [60, 0x60, 1, 2] = none ∧ signalOf 1 [61, 0x60, 1, 1] = none ∧ (signalOf 8 []).isSome = true ∧
    signalOf 7 [0x3F, 0x42, 0x0F, 0] = some (.receipt 999999) ∧ signalOf 7 [0x40, 0x42, 0x0F, 0] = none ∧
    (let x (sig : FarSignal) (y : Session) : Session := (takeSignal 0 sig (sends y desk)).ports[0].session
     (x (.receipt 7) { state := .closing, delivered := 63 }).outcome = some { outcome := .delivered } ∧
     (x (.receipt 7) { state := .closing, delivered := 62 }).outcome = some { outcome := .short } ∧
     (x .hang { state := .closing, delivered := 63 }).outcome = some { outcome := .deliveredNoReceipt } ∧
     (x .hang { state := .parting }).ending = .parted ∧ (x .hang { state := .releasing }).outcome = none ∧
     (x .hang { state := .quiet }).outcome = some { outcome := .farHung } ∧
     (x .phased { state := .calling }).counts.noise = 1 ∧ (x .phased { state := .releasing }).counts.noise = 0 ∧
     (x .goodA { state := .sending, bandCollisions := 1 }).state = .quiet ∧
     (x .goodA { state := .sending, bandCollisions := 2 }).outcome = some { outcome := .lineNoise }) := by decide +kernel

theorem test_witness_SessionsTakeReadyAndPhased :
    (let x (rpm ioc : Nat) (capable : Bool) (y : Session) : Session :=
       (takeSignal 0 (.ready rpm ioc capable) (sends { y with state := .calling } desk)).ports[0].session
     (x 60 353 true {}).outcome = some { outcome := .mismatchIoc } ∧ (x 60 352 true {}).state = .caption ∧
     (x 60 352 false {}).state = .phasing ∧ (x 60 352 true { resumed := true }).state = .phasing ∧
     (x 90 352 true { live := .candidate }).live = .none ∧ (x 60 352 true { live := .candidate }).live = .candidate) ∧
    (let x (y : Session) : Session := (takeSignal 0 .phased (sends y desk)).ports[0].session
     (x { state := .phasing, live := .candidate }).state = .standby ∧ (x { state := .awaitPhased }).state = .sending ∧
     (takeSignal 0 .phased (port0 (fun q => { q with hold := true }) (sends { state := .awaitPhased } desk))).ports[0].session.state =
       .held) := by decide +kernel

theorem test_witness_SessionsTakeVerdicts :
    (let s (y : Session) : State := sends { y with state := .awaitVerdict } desk
     let x (sig : FarSignal) (y : Session) : Session := (takeSignal 0 sig (s y)).ports[0].session
     (s {}).ports[0].session.job = some job ∧ (s {}).ports[0].session.state = .awaitVerdict ∧
     (x .goodA { band := 12 }).band = 13 ∧ (x .goodB { band := 13 }).band = 14 ∧ (x .goodB { band := 12 }).agains = 1 ∧
     (x .goodA { band := 62 }).state = .closing ∧
     (x .goodA { band := 12, stale := true, staleResends := 1 }).staleResends = 2 ∧
     (x .goodA { band := 12, stale := true, staleResends := 2 }).counts.alterations = 1 ∧
     (x .again { agains := 2 }).state = .sending ∧ (x .again { agains := 3 }).outcome = some { outcome := .bandRejected } ∧
     (x .wait { waitRun := 7 }).state = .waiting ∧ (x .wait { waitRun := 8 }).outcome = some { outcome := .farStalled } ∧
     (let l : Link := { state := .connected, outstanding := [.trailer true], transfer := some { frame := .query true 1 } }
      let t := (takeSignal 0 .wait (linked l (s { wishes := [.query true] }))).ports[0]
      t.link.outstanding = [.trailer false] ∧ t.link.transfer = some { frame := .query false 1 } ∧
      t.session.wishes = [.query false])) := by
  decide +kernel

theorem test_witness_SessionTimersExpire :
    (let s (kind : TimerKind) (y : Session) : State := sends { y with timer := some { kind := kind, expiry := 9 } } desk
     let x (i : Instr) (y : State) : Session := (after i y).ports[0].session
     (s .seize {}).inReset = false ∧
     (x (.seizeTimerExpiry 9 0) (s .seize { state := .seizing })).outcome = some { outcome := .lineFailed } ∧
     (x (.seizeTimerExpiry 8 0) (s .seize { state := .seizing })).outcome = none ∧
     (x (.readyTimerExpiry 9 0) (s .ready { state := .calling })).outcome = some { outcome := .noAnswer } ∧
     (x (.phasedTimerExpiry 9 0) (s .phased { state := .awaitPhased, round := 2 })).round = 3 ∧
     (x (.phasedTimerExpiry 9 0) (s .phased { state := .awaitPhased, round := 3 })).outcome = some { outcome := .notPhased } ∧
     (x (.verdictTimerExpiry 9 0) (s .verdict { state := .awaitVerdict, queries := 2 })).counts.queries = 1 ∧
     (x (.verdictTimerExpiry 9 0) (s .verdict { state := .awaitVerdict, queries := 3 })).outcome = some { outcome := .noVerdict } ∧
     (x (.waitTimerExpiry 9 0) (s .wait { state := .waiting })).state = .awaitVerdict ∧
     (x (.quietTimerExpiry 9 0) (s .quiet { state := .quiet })).state = .sending ∧
     (x (.receiptTimerExpiry 9 0) (s .receipt { state := .closing, delivered := 63 })).outcome =
       some { outcome := .deliveredNoReceipt } ∧
     (x (.receiptTimerExpiry 9 0) (s .quiet { state := .quiet })).state = .quiet) := by decide +kernel

/-- A SEND record for picture 3 and port 0: priority 3, a caption of two bytes in job slot 1. -/
def sendRecord : List Byte := ((record 2 3 0 3 2).set 24 0x80).set 26 0x80

theorem test_witness_IntakeReads :
    (let s (n : Nat) : State :=
       { desk with intake := { queue := [4, 9] }, composer := { desk.composer with openJobs := n } }
     (s 40).inReset = false ∧ jobsBase (s 40) = some 0x0800000 ∧
     (after (.intakeReaderTake 5) (s 40)).intake =
       { queue := [9], hand := some { slot := 4, addr := 0x0800200 } } ∧
     (after (.intakeReaderTake 5) (s 41)).intake.hand = none ∧
     (after (.intakeReaderTake 5) { s 40 with cfg := {} }).intake.hand = none) ∧
    (let s := after (.jobRecordReadEnd 5) (reading sendRecord (pic3 complete desk))
     s.intake.hand.map (fun h => (h.phase, h.todo)) =
       some (.caption, [{ which := 0, first := 0x0800080, len := 2, slotAddr := 0x0800080 }]) ∧
     (let t := after (.jobRecordReadEnd 6) (busy (.jobRead 0x0800080) { s with mem := [(0x0800080, 0x41), (0x0800081, 0x42)] })
      t.intake.hand.map (fun h => (h.phase, h.captions)) = some (.answering, [[0x41, 0x42], [], [], []]) ∧
      t.ports[0].active.map (·.job.caption) = some [0x41, 0x42])) := by decide +kernel

/-- A SCAN record for picture 3: 60 rpm, these live ports, 1000 lines at IOC 352, advance 300, priority 1 for each port. -/
def scanRec (mask : Byte) : List Byte :=
  List.replicate 8 0 ++ [1, 0, 0, 0, 3, 60, mask, 0, 0x12, 0xA3, 7, 0, 0x60, 1, 0xE8, 3, 44, 1, 0, 0] ++
    (List.replicate 4 (List.replicate 13 0 ++ [1, 0, 0])).flatten ++ List.replicate 36 0

theorem test_scan_record :
    (scanRec 3).length = 128 ∧ recTag (scanRec 3) = 0x0007A312 ∧ recIoc (scanRec 3) = 352 ∧ recLines (scanRec 3) = 1000 ∧
    recAdvance (scanRec 3) = 300 ∧ (liveFields (scanRec 3) 3).prio = 1 := by decide +kernel

/-- Each refusal, at the bounds of its check. -/
theorem test_witness_RefusalsInOrder :
    (let empty := pic3 {} desk
     let off (s : State) : State := { s with cfg := { s.cfg with ports := Vector.replicate 4 {} } }
     refusalOf { desk with adopted := false } (record 2 3 0 1 0) = some 1 ∧ refusalOf desk (record 0 0 0 0 0) = some 2 ∧
     refusalOf desk (record 8 0 0 0 0) = some 2 ∧ refusalOf desk (record 4 16 0 0 0) = some 3 ∧
     refusalOf desk (record 4 15 0 0 0) = none ∧ refusalOf desk (record 2 3 4 1 0) = some 4 ∧ refusalOf desk (record 6 4 0 0 0) = some 4 ∧
     refusalOf desk (scanRec 16) = some 4 ∧ refusalOf (off desk) (record 7 3 0 0 0) = some 5 ∧
     refusalOf desk (record 2 3 0 0 0) = some 6 ∧ refusalOf desk (record 2 3 0 8 0) = some 6 ∧ refusalOf desk (record 2 3 0 7 0) = none ∧
     refusalOf desk (record 2 3 0 1 241) = some 7 ∧ refusalOf desk (record 2 3 0 1 1) = some 7 ∧ refusalOf desk sendRecord = none ∧
     refusalOf empty ((scanRec 3).set 20 0x59 |>.set 21 2) = some 8 ∧ refusalOf empty ((scanRec 3).set 13 61) = some 9 ∧
     refusalOf empty ((scanRec 3).set 22 31 |>.set 23 0) = some 10 ∧ refusalOf desk (scanRec 3) = some 11 ∧
     refusalOf empty (scanRec 3) = none ∧
     refusalOf { empty with pics := empty.pics.set 4 scanned } (scanRec 3) = some 12 ∧
     refusalOf (port0 (fun q => { q with hold := true }) empty) (scanRec 3) = some 13 ∧
     refusalOf (port0 (fun q => { q with hold := true }) empty) (scanRec 2) = none ∧
     (let waiting (n : Nat) : State :=
        port0 (fun q => { q with active := some { job := job, begun := false }, queue := List.replicate n job }) empty
      refusalOf (waiting 7) (scanRec 3) = none ∧ refusalOf (waiting 8) (scanRec 3) = none) ∧
     refusalOf { empty with drum := { empty.drum with coverOpen := true } } (scanRec 3) = some 14 ∧
     refusalOf (port0 (fun q => { q with queue := List.replicate 8 job }) desk) (record 2 3 0 1 0) = some 15 ∧
     refusalOf (port0 (fun q => { q with queue := List.replicate 7 job }) desk) (record 2 3 0 1 0) = none ∧
     refusalOf desk (record 5 3 0 0 0) = some 16 ∧ refusalOf (pic3 { complete with refs := 0 } desk) (record 5 3 0 0 0) = none ∧
     refusalOf desk (record 3 57 0 0 0) = some 17 ∧
     refusalOf (port0 (fun q => { q with queue := [job] }) desk) (record 3 57 0 0 0) = none ∧
     refusalOf (sends { state := .sending } desk) (record 3 57 0 0 0) = none ∧
     refusalOf (sends { state := .releasing, outcome := some { outcome := .short } } desk) (record 3 57 0 0 0) = some 17) := by
  decide +kernel

theorem test_answers :
    (jobsBase desk).isSome = true ∧ jobsBase State.reset = none ∧
    (after (.jobRecordReadEnd 5) (reading (record 2 3 0 0 0) desk)).intake.hand.map (·.result) = some [2, 6, 0, 0] ∧
    (after (.jobRecordReadEnd 5) (reading (record 6 2 0 0 0) desk)).intake.hand.map (·.result) = some [1, 0, 57, 0] ∧
    (after (.jobRecordReadEnd 5) (reading (record 6 2 0 0 0) { desk with cfg := {} })).notice.flags = 1 := by decide +kernel

theorem test_witness_JobsAreTaken :
    (let ready (r : List Byte) (s : State) : Bool :=
       let a := advance 5 (reading r s)
       let x := finishRead 0x0800000 a
       decide (a.inReset = false) && (readyHand x).any fun h => decide (refusalOf x h.record = none) && decide (h.record = r)
     ready (scanRec 3) (pic3 {} desk) = true ∧ ready (record 2 3 0 1 0) desk = true ∧
     ready (record 3 57 0 0 0) (port0 (fun q => { q with queue := [job] }) desk) = true ∧ ready (record 4 3 0 0 0) desk = true ∧
     ready (record 5 4 0 0 0) desk = true ∧ ready (record 6 3 0 0 0) desk = true ∧ ready (record 7 3 0 0 0) desk = true) := by
  decide +kernel

theorem test_scan_job :
    (let s := after (.scan 5) (reading (scanRec 3) (pic3 {} desk))
     (s.pics[(3 : Fin 16)].state, s.pics[(3 : Fin 16)].stride, s.pics[(3 : Fin 16)].refs) = (.scanning, 1080, 3) ∧
     (s.drum.state, s.drum.lamp, s.drum.carriage) = (.spinUp, .warming, .homing 5 0) ∧
     s.pipe.candidates = #v[some false, some false, none, none] ∧
     (s.ports[0].session.state, s.ports[1].session.live, s.ports[2].session.state) = (.seizing, .candidate, .idle) ∧
     s.composer.openJobs = 2 ∧ s.intake.jobId = 57) ∧
    (let waiting := port0 (fun q => { q with active := some { job := job, begun := false } }) (pic3 {} desk)
     let s := after (.scan 5) (reading (scanRec 3) waiting)
     s.ports[0].queue = [{ job with bumped := true }] ∧ s.ports[0].active.map (fun a => (a.job.liveOrigin, a.begun)) = some (true, true)) ∧
    (let full := port0 (fun q => { q with queue := List.replicate 8 job, active := some { job := { job with pic := 4 }, begun := false } })
       (pic3 {} desk)
     let s := after (.scan 5) (reading (scanRec 3) full)
     s.ports[0].queue = List.replicate 8 job ∧ s.composer.pending.map (fun x => (x.outcome, x.pic)) = [(.abortedUnsent, 4)] ∧
     s.ports[0].active.map (·.job.liveOrigin) = some true) := by
  decide +kernel

/-- A live send waits while a blocking slip of its port is pending, as a candidate still, and begins when the slip is written; a hold
and an abort withdraw it. -/
theorem test_live_send_waits :
    (let s := after (.scan 5) (reading (scanRec 3) (slipPending .short (pic3 {} desk)))
     s.ports[0].active.map (fun a => (a.job.liveOrigin, a.begun)) = some (true, false) ∧ s.ports[0].session = {} ∧
     s.ports[1].session.state = .seizing ∧ s.pipe.candidates[0] = some false ∧
     (let t := after (.slipRecordWriteEnd 6) (busy (.slipWrite 0 0x0801000 []) s)
      t.ports[0].active.map (·.begun) = some true ∧ (t.ports[0].session.state, t.ports[0].session.live) = (.seizing, .candidate)) ∧
     (dispatchHoldPort { slot := 0, addr := 0, record := record 6 0 0 0 0 } s).pipe.candidates[0] = none ∧
     (abortActive (.id 57) 0 s).pipe.candidates[0] = none) := by
  decide +kernel

theorem test_witness_SendJobsAreDispatched :
    (let j (id prio : Nat) : Job := { job with id := id, prio := prio }
     let q := [j 61 7, j 62 5, j 60 2]
     (q.Pairwise fun a b => b.prio ≤ a.prio) ∧ (insertSend (j 63 5) q).map (·.id) = [61, 62, 63, 60] ∧
     (insertBumped (j 63 5) q).map (·.id) = [61, 63, 62, 60] ∧
     (let s (st : SessionState) : State := { desk with cfg := { desk.cfg with ports := Vector.replicate 4 { preempt := true } } } |> sends { state := st }
      (checkPreempt 0 (j 61 4) (s .calling)).ports[0].queue = [{ job with bumped := true }] ∧
      checkPreempt 0 (j 61 4) desk = desk ∧ (checkPreempt 0 (j 61 4) (s .sending)).ports[0].preempt = true ∧ checkPreempt 0 (j 61 3) (s .sending) = s .sending ∧
      checkPreempt 0 (j 61 4) (s .phasing) = s .phasing ∧ checkPreempt 0 (j 61 4) (sends { state := .sending } desk) = sends { state := .sending } desk)) := by
  decide +kernel

theorem test_witness_AbortsTakeJobsOut :
    (let t := AbortTarget.id 57
     let s (st : SessionState) : State := sends { state := st } desk
     (abortQueued t 0 (port0 (fun q => { q with queue := [job] }) desk)).composer.pending.map (·.outcome) = [.abortedUnsent] ∧
     (abortContexts (.id 50) 0 (port0 (fun q => { q with contexts := [context 1] }) desk)).composer.pending.map (·.outcome) = [.aborted] ∧
     (abortActive t 0 (s .sending)).ports[0].session.state = .releasing ∧ (abortActive t 0 (s .parting)).ports[0].session.state = .parting ∧
     (abortActive t 0 (s .parting)).ports[0].session.outcome = some { outcome := .aborted } ∧
     (abortActive t 0 (port0 (fun q => { q with active := some { job := job, begun := false } }) desk)).ports[0].active = none ∧
     abortActive (.id 58) 0 (s .sending) = s .sending ∧
     abortActive t 0 (sends { state := .releasing, outcome := some { outcome := .short } } desk) =
       sends { state := .releasing, outcome := some { outcome := .short } } desk ∧
     (cutPicture 3 .aborted (running desk)).pics[(3 : Fin 16)].cause = .aborted ∧ cutPicture 4 .aborted desk = desk) := by
  decide +kernel

theorem test_witness_PortAndPictureJobsAreDispatched :
    (let h (r : List Byte) : Hand := { slot := 0, addr := 0, record := r }
     let s := { pic3 { complete with refs := 0 } desk with
       store := { desk.store with heldFailure := some { failure 8 with pic := 4 } }, trailers := [failure 4, { failure 12 with pic := 4 }] }
     (dispatchReleasePicture (h (record 5 3 0 0 0)) s).trailers.map (·.trailer) = [12, 8] ∧
     dispatchReleasePicture (h (record 5 4 0 0 0)) s = s ∧
     (dispatchReleasePicture (h (record 5 3 0 0 0)) { s with store := desk.store }).trailers.map (·.trailer) = [12] ∧
     (let f (pic : Option (Fin 16)) : Frame := .picture pic 200 tones 1000000 [1, 2]
      let t := dispatchReleasePicture (h (record 5 3 0 0 0))
        (port0 (fun q => { q with link := { transfer := some { frame := f (some 3) } } }) (set7 (way 200 true) {} s))
      t.ports[0].link.transfer.map (·.frame) = some (f none) ∧ t.store.sets[7].way0 = { way 200 false with state := .invalid }) ∧
     (dispatchHoldPort (h (record 6 0 0 0 0)) desk).ports[0].hold = true ∧
     (dispatchHoldPort (h (record 6 0 0 0 0)) (sends { state := .standby, live := .candidate } desk)).ports[0].session.state = .sending ∧
     (let held (x : Session) (q : List Job) : State := port0 (fun p => { p with hold := true, queue := q }) (sends x desk)
      dispatchHoldPort (h (record 6 0 0 0 0)) (held {} []) = held {} [] ∧
      (dispatchResumePort (h (record 7 0 0 0 0)) (held { state := .held } [])).ports[0].session.state = .sending ∧
      (dispatchResumePort (h (record 7 0 0 0 0)) (held { state := .held } [job])).ports[0].hold = false ∧
      dispatchResumePort (h (record 7 0 0 0 0)) desk = desk)) := by decide +kernel

/-- A setup part read is in progress, the parts before it read as `c` says. -/
def loading (part : Nat) (c : Setup) (s : State) : State := busy (.setupPart part) { s with loader := { phase := .reading part, block := c } }

theorem test_witness_SetupLoads :
    (loading 1 {} State.reset).inReset = false ∧
    (let s := after (.setupPartReadEnd 5) (loading 1 {} State.reset)
     s.loader.phase = .reading 2 ∧ s.loader.block.jobSlots = 8 ∧ s.loader.adjusted = true) ∧
    (let s := after (.setupPartReadEnd 5) (loading 2 {} { State.reset with mem := [(0x3F80020, 1)] })
     s.loader.phase = .answering [3, 0, 0, 0]) ∧
    (let s := after (.setupPartReadEnd 5) (loading 8 { jobSlots := 8, ringCapacity := 9 } State.reset)
     s.adopted = true ∧ s.cfg.ringCapacity = 9 ∧ s.composer.filled.length = 9 ∧ s.loader.phase = .answering [1, 1, 0, 0]) ∧
    (let s := after (.setupPartReadEnd 5) (loading 8 {} desk)
     s.cfg = desk.cfg ∧ s.loader.phase = .answering [6, 0, 3, 0]) ∧
    (loading 8 {} State.reset).unit = some (.setupPart 8) := by decide +kernel

/-- Parts taken in at and beyond the bounds of their fields. -/
theorem test_clamps :
    (let part (p : Nat) (bs : List Byte) : Loader := takePart {} p (bs ++ List.replicate 80 0)
     ((part 1 [0, 0, 8, 0, 0, 1]).block.jobSlots, (part 1 [0, 0, 8, 0, 0, 1]).block.ringCapacity) = (8, 256) ∧
     (part 1 [0, 0, 8, 0, 0, 1]).adjusted = false ∧ (part 1 [0, 0, 129, 0, 0, 1]).block.jobSlots = 128 ∧
     (part 1 [0, 0, 7, 0, 0, 1]).adjusted = true ∧ (part 2 [5]).adjusted = true ∧ (part 2 [4]).adjusted = false ∧
     ((part 4 [0, 4, 255, 3]).block.drum.dBase60, (part 4 [0, 4, 255, 3]).block.drum.dBase90) = (1023, 1023) ∧
     (part 4 [0, 0, 0, 0, 0, 0, 0, 0, 20, 0, 88, 2, 64, 0, 5, 1]).adjusted = false ∧
     (let port (bs : List Byte) : PortSettings := (part 8 bs).block.ports[(3 : Fin 4)]
      (port [2]).enabled = true ∧ (port [1, 1, 0xFF, 3, 0, 4]).white = 1023 ∧ (port [1, 1, 0xFF, 3, 0, 4]).black = 1023 ∧
      (port [1, 0, 0xE7, 3, 0xB9, 0x0B]).white = 1000 ∧ (port [1, 0, 0xE7, 3, 0xB9, 0x0B]).black = 3000 ∧
      [24, 25, 48, 49].map (fun b => (port [0, 0, 0, 0, 0, 0, b]).bandLength) = [16, 32, 32, 64])) := by decide +kernel

/-- Each check of a setup, at the bounds of its clause. -/
theorem test_witness_table_checks :
    (let c := desk.cfg
     let win (i : Fin 8) (kind : WindowKind) (base size : Nat) : Setup :=
       { c with windows := c.windows.set i { kind := kind, base := base, size := size } }
     let slot (base size : Nat) : Setup := { c with slots := c.slots.set 3 { base := base, size := size } }
     let both (x : Setup) : Option (List Byte) × Option (List Byte) := (partChecks desk x 2, partChecks desk x 3)
     let busyPort := sends { state := .sending } desk
     let other : Setup := { c with ports := c.ports.set 0 { c.ports[0] with crc := true } }
     partChecks desk (win 4 .picture 0x1000000 0x801000) 2 = some [3, 0, 4, 0] ∧
     partChecks desk (win 4 .picture 0x1001000 0x2000) 2 = some [3, 0, 4, 0] ∧ partChecks desk (win 4 .picture 0x1001000 0x1000) 2 = none ∧
     partChecks desk (win 4 .picture 0x3FA0000 0x1000) 2 = some [2, 0, 4, 0] ∧
     partChecks desk (win 4 .picture 0x3FB0000 0x1000) 2 = none ∧
     partChecks desk (win 4 .picture 0x0400000 0x1000) 2 = some [2, 0, 0, 0] ∧
     partChecks desk (win 4 .jobs 0x1000000 0x1000) 2 = some [4, 0, 4, 0] ∧
     partChecks desk { c with jobSlots := 33 } 2 = some [7, 0, 0, 0] ∧ partChecks desk { c with ringCapacity := 65 } 2 = some [7, 0, 1, 0] ∧
     partChecks desk { c with ringCapacity := 63 } 2 = some [8, 0, 0, 0] ∧ adoptionCheck desk { c with ringCapacity := 63 } = some [8, 0, 0, 0] ∧
     both (slot 0x0400000 59516) = (none, some [5, 0, 3, 0]) ∧ both (slot 0x0400000 59520) = (none, some [6, 0, 3, 0]) ∧
     adoptionCheck desk (slot 0x0400000 59520) = some [6, 0, 3, 0] ∧ partChecks (pic3 {} desk) (slot 0x0400000 59520) 3 = none ∧
     partChecks desk (slot 0x07FFFFC 59520) 3 = some [5, 0, 3, 0] ∧
     partChecks busyPort other 5 = some [9, 0, 0, 0] ∧ partChecks busyPort other 6 = none ∧ partChecks desk other 5 = none ∧
     adoptionCheck busyPort other = some [9, 0, 0, 0] ∧ adoptionCheck desk c = none) := by decide +kernel

theorem test_witness_CheckedTablesAreSound :
    partChecks desk desk.cfg 2 = none ∧ partChecks desk desk.cfg 3 = none ∧ windows[(0 : Fin 8)].kind ≠ .off ∧
    windows[(1 : Fin 8)].kind = .jobs ∧ windows[(2 : Fin 8)].kind = .slips ∧ desk.cfg.slots[(3 : Fin 16)].size ≠ 0 := by
  decide +kernel

theorem test_witness_DeskClockCounts :
    (advance 1000000 State.reset).clock.micros = 1000000 ∧ (advance 999999 State.reset).clock.micros < 1000000 ∧
    (after (.deskClockSecond 1000007) State.reset).clock = { seconds := 1, micros := 7 } ∧
    (after (.deskClockSecond 1000000) { State.reset with inReset := true, clock := { seconds := 0xFFFFFFFF, micros := 0 } }).clock =
      { seconds := 0, micros := 0 } ∧
    (after (.deskClockSecond 999999) State.reset).clock = { seconds := 0, micros := 999999 } := by decide +kernel

theorem test_witness_TachPulsesRunTheSpeedLoop :
    (let s (st : DrumState) (last : Option Nat) : State :=
       { State.reset with drum := { state := st, target := some 90, lastTach := last } }
     (s .spinUp none).inReset = false ∧ (after (.tachPulse 9) (s .spinUp none)).drum.lastTach = some 9 ∧
     (after (.tachPulse 9) (s .locked (some 1))).drum.integral = 120 * 8 - 666667 ∧
     (after (.tachPulse 9) (s .stopping none)).drum.coast = some 250009 ∧
     (after (.tachPulse 9) (s .stopped none)).drum = (s .stopped none).drum ∧
     (after (.indexPulse 9) (s .fault none)).drum = (s .fault none).drum) := by decide +kernel

theorem test_witness_IndexPulsesDecideLock :
    (let d (st : DrumState) (good : Nat) (held : Bool) : Drum :=
       { state := st, target := some 60, goodRun := good, scanHeld := held, lastIndex := some 0 }
     let x (now : Nat) (y : Drum) : Drum := indexDecision {} now y
     (x 1000200 (d .locked 3 true)).state = .locked ∧ (x 1000201 (d .locked 3 true)).state = .slipped ∧
     (x 1000101 (d .spinUp 2 true)).goodRun = 0 ∧ (x 1000100 (d .spinUp 1 true)).goodRun = 2 ∧
     (x 1000100 (d .slipped 2 true)).state = .locked ∧ (x 999900 (d .spinUp 2 false)).idleSpin = some 60999900 ∧
     (indexDecision { idleSpin := 0 } 1000000 (d .spinUp 2 false)).state = .stopping ∧
     (indexDecision {} 7 { d .spinUp 0 true with lastIndex := none }).lastIndex = some 7 ∧
     (lockChange .locked { State.reset with pipe := { state := .starting } }).pipe.startLimit = .running 60000000 ∧
     lockChange .locked State.reset = State.reset ∧
     (lockChange .slipped (running (sends { state := .standby, live := .member } desk))).ports[0].session.live = .none ∧
     lockChange .slipped desk = desk) ∧
    (after (.indexPulse 1000000) (running desk)).pipe.rev.map (·.opened) = some true ∧
    (after (.indexPulse 1000000) { running desk with drum := { (running desk).drum with scanHeld := false } }).pipe.rev = none := by
  decide +kernel

/-- A scan of a small picture of 42 samples runs; its revolution in progress has these first 16 codes and 26 more. -/
def smallScan (w b : BitVec 12) (faults : Nat) (old : Option (Nat × Nat)) : State :=
  let s := running desk
  { s with
    pipe := { s.pipe with
      samples := 42, picSamples := 10, held := old, faultRun := faults
      rev := some { start := 0, period := 1000000, opened := true
                    codes := (List.replicate 14 w ++ List.replicate 28 b).map some } } }

theorem test_witness_RevolutionsAreJudged :
    (let judge (first last : Option DrumState) (s : State) : State := revolution first last 1000000 999999 s
     let good := judge (some .locked) (some .locked)
     let s := good (smallScan 3600 400 3 none)
     s.pipe.next = 242 ∧ s.pipe.held = some (3600, 400) ∧ s.pipe.faultRun = 0 ∧
     s.pipe.buffers[(0 : Fin 2)].map (fun e => (e.line, e.bytes, e.heldRef)) = some (241, List.replicate 10 255, false) ∧
     (good (smallScan 655 400 3 none)).pipe.faultRun = 4 ∧ (good (smallScan 656 400 3 none)).pipe.faultRun = 0 ∧
     (good (smallScan 655 400 3 (some (3600, 400)))).pipe.next = 242 ∧
     (good (smallScan 655 400 6 none)).pipe.state = .running ∧
     (good (smallScan 655 400 7 none)).pics[(3 : Fin 16)].cause = .referenceLost ∧
     (judge (some .spinUp) (some .locked) (smallScan 3600 400 3 none)).pipe.next = 241 ∧
     (judge none (some .locked) desk).pipe = desk.pipe ∧ (good (running desk)).pipe.rev.isSome = true) ∧
    (let start (lamp : Bool) : State :=
       { running (sends { state := .standby, live := .candidate } desk) with
         pipe := { (running desk).pipe with state := .starting, lampReady := lamp, homed := true, candidates := #v[some true, none, none, none] } }
     (revolution none (some .locked) 5 999999 (start true)).pipe.state = .running ∧
     (revolution none (some .locked) 5 999999 (start true)).pipe.bandLens = #v[some 16, none, none, none] ∧
     (revolution none (some .locked) 5 999999 (start true)).ports[0].session.live = .member ∧
     (revolution none (some .locked) 5 999999 (start false)).pipe.state = .starting) := by decide +kernel

theorem test_witness_LinesAreAccepted :
    (let r : Revolution := { start := 0, period := 1000000, opened := true }
     let s (n : Nat) : State :=
       { running (sends { state := .sending, live := .member } desk) with
         pipe := { (running desk).pipe with next := n, bandLens := #v[some 16, none, none, none] } }
     bufferFree (s 239).pipe = true ∧ (acceptLine (2, 1) false 0 1 r (s 239)).pipe.hold = some [{ port := 0 }] ∧
     (acceptLine (2, 1) false 0 1 r (s 238)).pipe.hold = none ∧ (acceptLine (2, 1) false 0 1 r (s 999)).pipe.hold = none) := by
  decide +kernel

theorem test_witness_DensitiesFollowTheToneCurve :
    (let T := ({} : DrumSettings).curve
     let codes (a : BitVec 12) : List (Option (BitVec 12)) := List.replicate 32 none ++ [some a]
     T.length = 17 ∧ (∀ x ∈ T, x ≤ 255) ∧ (codes 300)[32]? = some (some 300) ∧ mapLine T (3600, 400) 1 (codes 400) = [255] ∧
     mapLine T (3600, 400) 1 (codes 1100) = [199] ∧ mapLine T (3600, 400) 1 (codes 3600) = [0]) := by decide +kernel

theorem test_witness_SamplesAreConverted :
    (let s (codes : List (Option (BitVec 12))) (req : Option ConvRequest) : State :=
       { running desk with pipe := { (running desk).pipe with
         samples := 42, request := req, rev := some { start := 0, period := 1000000, opened := true, codes := codes } } }
     (s [] none).inReset = false ∧
     (after (.conversionRequest 0) (s [] none)).pipe.request = some { position := 0, current := true } ∧
     (after (.conversionRequest 23808) (s [none] none)).pipe.request = none ∧
     (after (.conversionRequest 23809) (s [none] none)).pipe.request = some { position := 1, current := true } ∧
     (after (.conversionRequest 23809) (s [none] (some { position := 0, current := true }))).pipe.request =
       some { position := 0, current := true } ∧
     (after (.conversionRequest 1000000) (s (List.replicate 42 none) none)).pipe.request = none ∧
     (after (.codeReady 5 7) (s [none] (some { position := 0, current := true }))).pipe.rev.map (·.codes) = some [some 7] ∧
     (after (.codeReady 5 7) (s [none] (some { position := 0, current := false }))).pipe.rev.map (·.codes) = some [none] ∧
     (after (.codeReady 5 7) (s [none] none)).pipe.rev.map (·.codes) = some [none]) := by decide +kernel

theorem test_witness_DrumFaultsAreTaken :
    (let s (d : Drum) : State := { running desk with drum := { d with scanHeld := true } }
     (s {}).inReset = false ∧
     (let t := after (.stallTimerExpiry 9) (s { state := .locked, stall := some 9 })
      (t.drum.state, t.drum.cause, t.pics[(3 : Fin 16)].cause) = (.fault, .stall, .drumFault)) ∧
     (after (.stallTimerExpiry 8) (s { state := .locked, stall := some 9 })).drum.state = .locked ∧
     (after (.spinUpTimerExpiry 9) (s { state := .spinUp, spinUp := some 9 })).drum.cause = .spinUp ∧
     (after (.slipTimerExpiry 9) (s { state := .slipped, slip := some 9 })).drum.cause = .slip ∧
     (after (.coverOpen 9) (s { state := .stopping })).drum.cause = .cover ∧
     (after (.coverOpen 9) (s {})).drum.state = .stopped ∧ (after (.coverOpen 9) (s { coverOpen := true, state := .locked })).drum.state = .locked ∧
     (after (.homingLimitExpiry 20000509) (s { carriage := .homing 9 40000 })).drum.cause = .carriage ∧
     (after (.homingLimitExpiry 20000508) (s { carriage := .homing 9 40000 })).drum.cause = .noFault ∧
     (after (.homingLimitExpiry 20000509) (s { carriage := .homing 9 39999 })).drum.cause = .noFault) := by decide +kernel

theorem test_witness_DrumEventsAreTaken :
    (let s (d : Drum) : State := { running desk with drum := d }
     (after (.idleSpinTimerExpiry 9) (s { state := .locked, idleSpin := some 9 })).drum.coast = some 250009 ∧
     (after (.coastTimerExpiry 9) (s { state := .stopping, coast := some 9 })).drum.state = .stopped ∧
     (after (.coastTimerExpiry 8) (s { state := .stopping, coast := some 9 })).drum.state = .stopping ∧
     (after (.coverClose 9) (s { coverOpen := true })).drum.coverOpen = false ∧
     (after (.settleTimerExpiry 9) (s { lamp := .warming, settle := some 9 })).pipe.lampReady = true ∧
     (after (.homingStep 509) (s { carriage := .homing 9 0 })).drum.carriage = .homing 9 1 ∧
     (after (.homingStep 508) (s { carriage := .homing 9 0 })).drum.carriage = .homing 9 0 ∧
     (after (.homeSwitchClose 9) (s { carriage := .homing 9 0 })).pipe.homed = true ∧
     (after (.homeSwitchClose 9) (s { carriage := .known 7 })).drum.carriage = .known 7 ∧
     (after (.homeSwitchOpen 9) (s { homeClosed := true })).drum.homeClosed = false ∧
     (after (.carriageStep 9) (s { carriage := .known 1048576, steps := [9, 10] })).drum.carriage = .known 1048576 ∧
     (after (.carriageStep 9) (s { carriage := .known 7, steps := [9, 10] })).drum.steps = [10] ∧
     (after (.carriageStep 9) (s { carriage := .unknown, steps := [9, 10] })).drum.steps = [10] ∧
     (after (.carriageStep 9) (s { carriage := .unknown, steps := [9] })).drum.carriage = .unknown) ∧
    (let s : State := { running (sends { state := .phasing, live := .candidate } desk) with
       pipe := { (running desk).pipe with state := .starting, startLimit := .running 9, candidates := #v[some false, some true, none, none] } }
     (after (.startLimitTimerExpiry 9) s).pipe.candidates = #v[none, some true, none, none] ∧
     (after (.startLimitTimerExpiry 9) s).ports[0].session.live = .none) := by decide +kernel

/-- A scan of picture 3 runs with port 0 in its live set, and a command waits. -/
def lively : State :=
  { running (sends { state := .standby, live := .member } desk) with mem := [(5, 1), (9, 2)], pending := [.tachPulse 9] }

/-- The state of a step that answers one. -/
def stepped (s : State) : State :=
  match step s with
  | .next s' => s'
  | _ => s

theorem test_witness_MemoryStaysCanonical : MemoryInv lively ∧ step lively = .next (stepped lively) := ⟨by unfold MemoryInv; decide +kernel, rfl⟩

theorem test_witness_DrumStaysInOrder : drumOk lively.drum := by unfold drumOk; decide +kernel

theorem test_witness_PicturesAndScanStayInOrder : PictureInv lively ∧ ScanInv lively := by
  unfold PictureInv ScanInv pictureOk; decide +kernel

theorem test_witness_LinksAndQueuesStayInBounds :
    LinkInv lively ∧ QueueInv (port0 (fun q => { q with queue := [{ job with prio := 7 }, job, job] }) lively) := by
  unfold LinkInv QueueInv linkOk queueOk; decide +kernel

theorem test_witness_SettingsAndRingStayInRange : SettingsInv lively ∧ RingInv lively := by
  have d : drumSettingsOk {} := by unfold drumSettingsOk; decide +kernel
  have e : ∀ p : PortNo, portSettingsOk lively.cfg.ports[p] := by unfold portSettingsOk; decide +kernel
  have f : ∀ p : PortNo, portSettingsOk lively.loader.block.ports[p] := by unfold portSettingsOk; decide +kernel
  exact ⟨⟨⟨d, e⟩, ⟨d, f⟩⟩, by unfold RingInv; decide +kernel⟩

/-- Memory that is out of order, or lists an unwritten value, is not canonical. -/
theorem test_not_canonical : Memory.wf [(9, 1), (5, 1)] = false ∧ Memory.wf [(5, 0)] = false := by decide +kernel
end Sys2Proof.Tests
end

section
/-! PROOFS. The state after reset, and what the two resets and the end of a reset do (O60, O5, O4). -/

namespace Sys2Proof.Machine

/-! ### The state after reset -/

/-- The settings that stand before the first load are in their ranges. -/
theorem settingsOk_default : settingsOk {} := by
  refine ⟨?_, fun p => ?_⟩
  · unfold drumSettingsOk
    decide +kernel
  · unfold portSettingsOk
    revert p
    decide +kernel

/-- Settles O60: each invariant is checked on the one state after reset. -/
theorem resetSatisfiesTheInvariants : Obligations.ResetSatisfiesTheInvariants := by
  have memory : MemoryInv State.reset := wf_reset
  have drum : drumOk State.reset.drum := by unfold drumOk; decide
  have pictures : PictureInv State.reset := by unfold PictureInv pictureOk; decide +kernel
  have scan : ScanInv State.reset := by unfold ScanInv; decide +kernel
  have links : LinkInv State.reset := by unfold LinkInv linkOk; decide +kernel
  have queues : QueueInv State.reset := by unfold QueueInv queueOk; decide +kernel
  exact ⟨memory, drum, pictures, scan, links, queues, ⟨settingsOk_default, settingsOk_default⟩, rfl⟩

/-- Settles O5: every block of the reset state stands at the values its rule states. -/
theorem resetLeavesTheStatedValues : Obligations.ResetLeavesTheStatedValues := by
  unfold Obligations.ResetLeavesTheStatedValues
  refine ⟨?path, ?pictures, ?lineStore, ?drum, ?drumRest, ?pipe, ?intake, ?ports, ?slips, ?setup, ?settings, ?status⟩
  case path => decide +kernel
  case pictures => decide +kernel
  case lineStore => decide +kernel
  case drum => decide +kernel
  case drumRest => decide +kernel
  case pipe => decide +kernel
  case intake => decide +kernel
  case ports => decide +kernel
  case slips => rfl
  case setup => decide +kernel
  case settings => decide +kernel
  case status => decide +kernel

/-! ### The resets -/

/-- R2: the addresses of the setup window. -/
theorem inSetupWindow_iff (strap : BitVec 3) (a : Nat) :
    inSetupWindow strap a = true ↔ setupBase strap ≤ a ∧ a < setupBase strap + 0x10000 := by
  unfold inSetupWindow
  rw [Bool.and_eq_true, decide_eq_true_eq, decide_eq_true_eq]
  rfl

/-- R13: a slip record write makes 16 accesses. -/
theorem length_slipAccesses (addr : Nat) (bytes : List Byte) : (slipAccesses addr bytes).length = 16 := rfl

/-- R160, R166: the next serial after a warm reset. -/
theorem serialKept_eq (s : State) (made : Nat) :
    serialKept s made =
      match s.unit, s.composer.nextSerial with
      | some (.slipWrite _ _ _), some n =>
        if made < 16 then some n else if n = 4294967295 then none else some (n + 1)
      | _, serial => serial := by
  unfold serialKept
  rcases s.unit with _ | u
  · rfl
  cases u with
  | slipWrite slot addr bytes =>
    rcases s.composer.nextSerial with _ | n
    · simp
    · by_cases h : made < 16
      · have hlt : ¬ (16 ≤ max 1 made) := by omega
        simp [length_slipAccesses, h, hlt]
      · have hle : 16 ≤ max 1 made := by omega
        simp only [length_slipAccesses, h, hle, if_true, if_false, Option.bind_some]
        rfl
  | _ => rfl

/-- Settles O4: the two resets and the end of a reset, each read off its own command. -/
theorem resetsBeginAndEnd : Obligations.ResetsBeginAndEnd := by
  refine ⟨fun t s => rfl, fun t made s running => ?_, fun t k o h s inReset => ⟨?_, fun a => ?_⟩⟩
  · have key : exec (.warmReset t made) s = .next (if s.inReset then advance t s else warmed made (advance t s)) := rfl
    rw [key, running]
    have serial := serialKept_eq (advance t s) made
    simp only [warmed, serial]
    rfl
  · have key : exec (.resetRelease t k o h) s = .next (if s.inReset then
        { advance t s with inReset := false, strap := k, drum := { s.drum with coverOpen := o, homeClosed := h } }
      else advance t s) := rfl
    rw [key, inReset]
    rfl
  · exact inSetupWindow_iff k a

end Sys2Proof.Machine
end

section
/-! PROOFS. What every command leaves alone: the queue, and the timebase but for `advance` (O2). -/

namespace Sys2Proof.Machine

/-! ### What keeps the queue and the timebase -/

/-- What only `advance` and the queue itself change: the queue and the timebase. -/
def queueTime (s : State) : List Instr × Nat := (s.pending, s.now)

/-- An operation that leaves `sessionPart` alone leaves the queue and the timebase alone. -/
theorem queueTime_of_sessionPart {a b : State} (h : sessionPart a = sessionPart b) : queueTime a = queueTime b := by
  have parts : queueTime (sessionPart a) = queueTime (sessionPart b) := by rw [h]
  exact parts

/-! #### The named updates -/

@[simp] theorem queueTime_modPort (p : PortNo) (f : Port → Port) (s : State) : queueTime (modPort p f s) = queueTime s := rfl
@[simp] theorem queueTime_modSession (p : PortNo) (f : Session → Session) (s : State) :
    queueTime (modSession p f s) = queueTime s := rfl
@[simp] theorem queueTime_modCounts (p : PortNo) (f : Counts → Counts) (s : State) :
    queueTime (modCounts p f s) = queueTime s := rfl
@[simp] theorem queueTime_modLink (p : PortNo) (f : Link → Link) (s : State) : queueTime (modLink p f s) = queueTime s := rfl
@[simp] theorem queueTime_modPic (k : Fin 16) (f : PictureRecord → PictureRecord) (s : State) :
    queueTime (modPic k f s) = queueTime s := rfl
@[simp] theorem queueTime_modDrum (f : Drum → Drum) (s : State) : queueTime (modDrum f s) = queueTime s := rfl
@[simp] theorem queueTime_drum (d : Drum) (s : State) : queueTime { s with drum := d } = queueTime s := rfl
@[simp] theorem queueTime_unit_trailers (u : Option BusUnit) (l : List LineFailure) (s : State) :
    queueTime { s with unit := u, trailers := l } = queueTime s := rfl
@[simp] theorem queueTime_modPipe (f : Pipeline → Pipeline) (s : State) : queueTime (modPipe f s) = queueTime s := rfl
@[simp] theorem queueTime_modStore (f : LineStore → LineStore) (s : State) : queueTime (modStore f s) = queueTime s := rfl
@[simp] theorem queueTime_raise (c : Nat) (s : State) : queueTime (raise c s) = queueTime s := rfl
@[simp] theorem queueTime_endUnit (u : BusUnit) (s : State) : queueTime (endUnit u s) = queueTime s := rfl
@[simp] theorem queueTime_takeRef (k : Fin 16) (s : State) : queueTime (takeRef k s) = queueTime s := rfl
@[simp] theorem queueTime_openJobs (n : Nat) (s : State) : queueTime (openJobs n s) = queueTime s := rfl
@[simp] theorem queueTime_noteChanges (a s : State) : queueTime (noteChanges a s) = queueTime s := by
  simp only [queueTime, noteChanges_pending, noteChanges_now]

theorem queueTime_ite (c : Prop) [Decidable c] {a b : State} (h : queueTime a = queueTime b) :
    queueTime (if c then a else b) = queueTime b := by
  split
  · exact h
  · rfl

theorem queueTime_foldl {α : Type} (f : State → α → State) (h : ∀ x a, queueTime (f x a) = queueTime x) (l : List α)
    (s : State) : queueTime (l.foldl f s) = queueTime s := by
  induction l generalizing s with
  | nil => rfl
  | cons a l ih => rw [List.foldl_cons, ih, h]

theorem queueTime_forPorts (f : PortNo → State → State) (h : ∀ p x, queueTime (f p x) = queueTime x) (s : State) :
    queueTime (forPorts f s) = queueTime s := queueTime_foldl _ (fun x p => h p x) _ s

/-! #### The operations of sessions, ports and slips, by their frames -/

@[simp] theorem queueTime_service (p : PortNo) (s : State) : queueTime (service p s) = queueTime s :=
  queueTime_of_sessionPart (sessionPart_service p s)
@[simp] theorem queueTime_judgeWriter (s : State) : queueTime (judgeWriter s) = queueTime s :=
  queueTime_of_sessionPart (sessionPart_judgeWriter s)
@[simp] theorem queueTime_orderOut (p : PortNo) (s : State) : queueTime (orderOut p s) = queueTime s :=
  queueTime_of_sessionPart (sessionPart_orderOut p s)
@[simp] theorem queueTime_abortPort (t : AbortTarget) (p : PortNo) (s : State) : queueTime (abortPort t p s) = queueTime s :=
  queueTime_of_sessionPart (sessionPart_abortPort t p s)
@[simp] theorem queueTime_select (p : PortNo) (s : State) : queueTime (select p s) = queueTime s :=
  queueTime_of_sessionPart (sessionPart_select p s)
@[simp] theorem queueTime_checkPreempt (p : PortNo) (c : Job) (s : State) : queueTime (checkPreempt p c s) = queueTime s :=
  queueTime_of_sessionPart (sessionPart_checkPreempt p c s)
@[simp] theorem queueTime_answerWaiters (pic : Fin 16) (line : Nat) (w : Bool) (s : State) :
    queueTime (answerWaiters pic line w s) = queueTime s := queueTime_of_sessionPart (sessionPart_answerWaiters pic line w s)

/-! #### Drum and pipeline -/

@[simp] theorem queueTime_scanEnd (k : Fin 16) (s : State) : queueTime (scanEnd k s) = queueTime s := by
  unfold scanEnd
  rw [queueTime_modPipe, queueTime_raise, queueTime_modDrum,
    queueTime_forPorts _ fun p x => queueTime_of_sessionPart (sessionPart_tellScanEnd k p x)]

@[simp] theorem queueTime_cutPicture (k : Fin 16) (cause : CutCause) (s : State) :
    queueTime (cutPicture k cause s) = queueTime s := by
  unfold cutPicture
  split <;> simp

@[simp] theorem queueTime_drumFault (cause : FaultCause) (s : State) : queueTime (drumFault cause s) = queueTime s := by
  unfold drumFault
  dsimp only
  split <;> simp

@[simp] theorem queueTime_setHold (n : Nat) (s : State) : queueTime (setHold n s) = queueTime s := by
  unfold setHold
  split <;> simp

@[simp] theorem queueTime_acceptLine (wb : Nat × Nat) (heldRef : Bool) (t0 v : Nat) (r : Revolution) (s : State) :
    queueTime (acceptLine wb heldRef t0 v r s) = queueTime s := by
  unfold acceptLine
  simp

@[simp] theorem queueTime_referenceFault (t0 v : Nat) (r : Revolution) (s : State) :
    queueTime (referenceFault t0 v r s) = queueTime s := by
  unfold referenceFault
  dsimp only
  split
  · simp
  · split <;> simp

@[simp] theorem queueTime_judgeRev (a b : Option DrumState) (t0 v : Nat) (s : State) :
    queueTime (judgeRev a b t0 v s) = queueTime s := by
  unfold judgeRev
  split
  · rfl
  · split_ifs <;> simp

@[simp] theorem queueTime_advanceWaits (s : State) : queueTime (advanceWaits s) = queueTime s := by
  unfold advanceWaits
  split
  · rfl
  · dsimp only
    rw [queueTime_foldl _ fun x (a : Awaited) => queueTime_orderOut a.port x, queueTime_modPipe]

@[simp] theorem queueTime_runRev (a b : Option DrumState) (t0 v : Nat) (s : State) :
    queueTime (runRev a b t0 v s) = queueTime s := by
  unfold runRev
  dsimp only
  split <;> simp

@[simp] theorem queueTime_startScan (t0 v : Nat) (s : State) : queueTime (startScan t0 v s) = queueTime s := by
  unfold startScan
  rw [queueTime_modPipe, queueTime_forPorts _ fun p x => queueTime_of_sessionPart (sessionPart_joinLive p x), queueTime_modPipe]

@[simp] theorem queueTime_revolution (a b : Option DrumState) (t0 v : Nat) (s : State) :
    queueTime (revolution a b t0 v s) = queueTime s := by
  unfold revolution
  split
  · rfl
  · split <;> simp
  · simp

@[simp] theorem queueTime_lockChange (st : DrumState) (s : State) : queueTime (lockChange st s) = queueTime s := by
  unfold lockChange
  split_ifs
  · simp
  · rfl
  · rw [queueTime_forPorts, queueTime_modPipe]
    intro p x
    split <;> simp
  · rfl

@[simp] theorem queueTime_indexPulse (s : State) : queueTime (indexPulse s) = queueTime s := by
  unfold indexPulse
  dsimp only
  split_ifs <;> simp

theorem queueTime_takeScan (id : Nat) (k : Fin 16) (rpm advance : Nat) (live : List PortNo) (s : State) :
    queueTime (takeScan id k rpm advance live s) = queueTime s := by
  unfold takeScan
  dsimp only
  split <;> simp

theorem queueTime_tachPulse (s : State) : queueTime (tachPulse s) = queueTime s := by
  unfold tachPulse
  split_ifs <;> simp

theorem queueTime_openCover (s : State) : queueTime (openCover s) = queueTime s := by
  unfold openCover
  dsimp only
  split_ifs <;> simp

theorem queueTime_settleLamp (s : State) : queueTime (settleLamp s) = queueTime s := by
  unfold settleLamp
  split <;> simp

theorem queueTime_closeHome (s : State) : queueTime (closeHome s) = queueTime s := by
  unfold closeHome
  dsimp only
  split <;> simp

theorem queueTime_startLimitExpiry (s : State) : queueTime (startLimitExpiry s) = queueTime s := by
  unfold startLimitExpiry
  split
  · split
    · dsimp only
      rw [queueTime_foldl _ fun x p => queueTime_orderOut p x, queueTime_modPipe]
    · rfl
  · rfl

/-! #### The memory path -/

theorem queueTime_grantDesk (s : State) : queueTime (grantDesk s) = queueTime s := by
  unfold grantDesk
  split
  · rfl
  · dsimp only
    split <;> rfl

theorem queueTime_grantScanLine (s : State) : queueTime (grantScanLine s) = queueTime s := by
  unfold grantScanLine
  dsimp only
  split <;> rfl

theorem queueTime_grantFetch (p : PortNo) (s : State) : queueTime (grantFetch p s) = queueTime s := by
  unfold grantFetch
  split
  · rfl
  · split <;> rfl

theorem queueTime_grantStatus (s : State) : queueTime (grantStatus s) = queueTime s := by
  unfold grantStatus
  split <;> rfl

theorem queueTime_grant (r : Requester) (s : State) : queueTime (grant r s) = queueTime s := by
  cases r with
  | scanWriter => exact queueTime_grantScanLine s
  | desk => exact queueTime_grantDesk s
  | lineFetch p => exact queueTime_grantFetch p s
  | statusWriter => exact queueTime_grantStatus s
  | intakeReader | setupLoader | slipWriter | trailerWriter => rfl

theorem queueTime_arbitrate (s : State) : queueTime (arbitrate s) = queueTime s := by
  unfold arbitrate
  split
  · split
    · exact queueTime_grant _ s
    · rfl
  · rfl

theorem queueTime_endForward (read : Bool) (want : WatchEvent → Bool) (f : WatchEvent → State → State)
    (h : ∀ e x, queueTime (f e x) = queueTime x) (s : State) : queueTime (endForward read want f s) = queueTime s := by
  unfold endForward
  split
  · split
    · rfl
    · exact h _ _
  · rfl

theorem queueTime_postSlot (j : Nat) (s : State) : queueTime (postSlot j s) = queueTime s := by
  unfold postSlot
  split <;> rfl

theorem queueTime_takeSlot (i : Nat) (s : State) : queueTime (takeSlot i s) = queueTime s := by
  unfold takeSlot
  rw [queueTime_judgeWriter]
  rfl

theorem queueTime_startLoad (s : State) : queueTime (startLoad s) = queueTime s := by
  unfold startLoad
  split <;> rfl

theorem queueTime_endUpkeep (composed : List Nat) (s : State) : queueTime (endUpkeep composed s) = queueTime s := by
  unfold endUpkeep
  split
  · dsimp only
    rw [queueTime_forPorts _ fun p x => queueTime_of_sessionPart (sessionPart_tellAltered _ _ p x), queueTime_modPic,
      queueTime_modStore, queueTime_forPorts _ fun p x => queueTime_of_sessionPart (sessionPart_patchTransfer _ _ _ _ _ _ p x)]
    rfl
  · rfl

@[simp] theorem queueTime_completePicture (k : Fin 16) (s : State) : queueTime (completePicture k s) = queueTime s := by
  unfold completePicture
  split <;> simp

theorem queueTime_advanceMark (e : LineEntry) (s : State) : queueTime (advanceMark e s) = queueTime s := by
  unfold advanceMark
  rw [queueTime_completePicture,
    queueTime_forPorts _ fun p x => queueTime_of_sessionPart (sessionPart_lineReady e.pic e.line e.lineTime p x),
    queueTime_of_sessionPart (sessionPart_installLine _ _ _ _), queueTime_modPic]

theorem queueTime_endScanLine (s : State) : queueTime (endScanLine s) = queueTime s := by
  unfold endScanLine
  split
  · split
    · rfl
    · unfold freeBuffer
      dsimp only
      rw [queueTime_modPipe]
      split
      · rw [queueTime_advanceMark, queueTime_endUnit]
      · rfl
  · rfl

@[simp] theorem queueTime_joinTrailers (f : LineFailure) (s : State) : queueTime (joinTrailers f s) = queueTime s := by
  unfold joinTrailers
  split <;> rfl

theorem queueTime_releaseHeldFailure (s : State) : queueTime (releaseHeldFailure s) = queueTime s := by
  unfold releaseHeldFailure
  split
  · split <;> simp
  · rfl

theorem queueTime_failFetch (p : PortNo) (stood : Bool) (f : LineFailure) (s : State) :
    queueTime (failFetch p stood f s) = queueTime s := by
  unfold failFetch passFailure
  dsimp only
  split_ifs <;> simp

theorem queueTime_endFetch (p : PortNo) (pic : Fin 16) (line : Nat) (w : Bool) (trailerAddr : Nat) (dropped : Bool)
    (density trailer : List Byte) (s : State) :
    queueTime (endFetch p pic line w trailerAddr dropped density trailer s) = queueTime s := by
  unfold endFetch
  dsimp only
  split
  · exact queueTime_of_sessionPart (sessionPart_unjoin _ _ _)
  · rw [queueTime_answerWaiters]
    split
    · rfl
    · rw [queueTime_failFetch, queueTime_modStore]

theorem queueTime_endLineFetch (s : State) : queueTime (endLineFetch s) = queueTime s := by
  unfold endLineFetch
  split
  · dsimp only
    rw [queueTime_forPorts _ queueTime_service, queueTime_endFetch, queueTime_endUnit]
  · rfl

theorem queueTime_endTrailerFlag (s : State) : queueTime (endTrailerFlag s) = queueTime s := by
  unfold endTrailerFlag
  split
  · dsimp only
    rw [queueTime_releaseHeldFailure]
    rfl
  · rfl

theorem queueTime_endSlipWrite (s : State) : queueTime (endSlipWrite s) = queueTime s := by
  unfold endSlipWrite
  split
  · dsimp only
    split
    · rfl
    · rw [queueTime_judgeWriter]
      split
      · rw [queueTime_of_sessionPart (sessionPart_portFreed _ _)]
        rfl
      · rfl
  · rfl

theorem queueTime_endStatusWrite (s : State) : queueTime (endStatusWrite s) = queueTime s := by
  unfold endStatusWrite
  split <;> rfl

/-! #### Job Intake -/

theorem queueTime_readerTake (s : State) : queueTime (readerTake s) = queueTime s := by
  unfold readerTake
  split
  · split <;> rfl
  · rfl

theorem queueTime_finishRead (addr : Nat) (s : State) : queueTime (finishRead addr s) = queueTime s := rfl

theorem queueTime_dispatchScan (h : Hand) (id : Nat) (s : State) : queueTime (dispatchScan h id s) = queueTime s := by
  unfold dispatchScan
  dsimp only
  rw [queueTime_openJobs, queueTime_foldl, queueTime_takeScan, queueTime_modPic]
  exact fun x p => queueTime_of_sessionPart ((sessionPart_activate _ _ _ _).trans (sessionPart_giveWay p x))

theorem queueTime_releasePicture (k : Fin 16) (s : State) : queueTime (releasePicture k s) = queueTime s := by
  unfold releasePicture
  dsimp only
  rw [queueTime_releaseHeldFailure, queueTime_unit_trailers, queueTime_modStore, queueTime_modPic,
    queueTime_forPorts _ fun p x => queueTime_of_sessionPart (sessionPart_detachTransfer k p x)]

theorem queueTime_dispatchHoldPort (h : Hand) (s : State) : queueTime (dispatchHoldPort h s) = queueTime s := by
  unfold dispatchHoldPort
  refine queueTime_of_sessionPart ?_
  dsimp only
  split_ifs <;> simp only [sessionPart_service, sessionPart_rejudge, sessionPart_withdrawLive, sessionPart_withdrawWaiting,
    sessionPart_modPort]

theorem queueTime_dispatchResumePort (h : Hand) (s : State) : queueTime (dispatchResumePort h s) = queueTime s := by
  unfold dispatchResumePort
  refine queueTime_of_sessionPart ?_
  dsimp only
  split_ifs <;> simp only [sessionPart_service, sessionPart_select, sessionPart_checkHead, sessionPart_resumeHeld,
    sessionPart_modPort]

theorem queueTime_dispatch (k : JobKind) (h : Hand) (id : Nat) (s : State) : queueTime (dispatch k h id s) = queueTime s := by
  cases k with
  | scan => exact queueTime_dispatchScan h id s
  | send =>
    simp only [dispatch, dispatchSend, queueTime_service, queueTime_select, queueTime_checkPreempt, queueTime_modPort,
      queueTime_openJobs, queueTime_takeRef]
  | abortJob => simp only [dispatch, dispatchAbortJob, queueTime_forPorts _ (queueTime_abortPort _)]
  | abortPicture => simp only [dispatch, dispatchAbortPicture, queueTime_forPorts _ (queueTime_abortPort _), queueTime_cutPicture]
  | releasePicture =>
    simp only [dispatch, dispatchReleasePicture]
    split
    · rfl
    · exact queueTime_releasePicture _ s
  | holdPort => exact queueTime_dispatchHoldPort h s
  | resumePort => exact queueTime_dispatchResumePort h s

theorem queueTime_answer (h : Hand) (result : List Byte) (s : State) : queueTime (answer h result s) = queueTime s := by
  unfold answer
  split <;> rfl

theorem queueTime_judgeJob (h : Hand) (s : State) : queueTime (judgeJob h s) = queueTime s := by
  unfold judgeJob
  split
  · dsimp only
    rw [queueTime_answer, queueTime_dispatch]
    rfl
  · exact queueTime_answer _ _ s
  · rfl

theorem queueTime_endJobRead (s : State) : queueTime (endJobRead s) = queueTime s := by
  unfold endJobRead
  split
  · dsimp only
    split
    · exact queueTime_judgeJob _ _
    · rfl
  · rfl

theorem queueTime_takenJob (k : JobKind) (s : State) : queueTime (takenJob k s) = queueTime s := by
  unfold takenJob
  split
  · dsimp only
    split
    · split
      · exact queueTime_judgeJob _ _
      · rfl
    · rfl
  · rfl

theorem queueTime_endResultWrite (s : State) : queueTime (endResultWrite s) = queueTime s := by
  unfold endResultWrite
  split <;> rfl

/-! #### The Setup Loader and the desk clock -/

theorem queueTime_adopt (l : Loader) (s : State) : queueTime (adopt l s) = queueTime s := by
  unfold adopt
  rw [queueTime_judgeWriter]
  rfl

theorem queueTime_afterPart (part : Nat) (l : Loader) (s : State) : queueTime (afterPart part l s) = queueTime s := by
  unfold afterPart
  split
  · rfl
  · split
    · rfl
    · split
      · rfl
      · exact queueTime_adopt l s

theorem queueTime_endSetupPart (s : State) : queueTime (endSetupPart s) = queueTime s := by
  unfold endSetupPart
  split
  · exact queueTime_afterPart _ _ _
  · rfl

theorem queueTime_endLoadResult (s : State) : queueTime (endLoadResult s) = queueTime s := by
  unfold endLoadResult
  split <;> rfl

theorem queueTime_clockSecond (s : State) : queueTime (clockSecond s) = queueTime s := by
  unfold clockSecond
  split <;> rfl

/-! ### Every command -/

/-- The commands whose effect is not wrapped in `act`: the resets, the arrival of a desk access, and the second of the desk clock. -/
def unwrapped : Instr → Bool
  | .powerOn _ | .warmReset _ _ | .resetRelease _ _ _ _ | .deskAccess _ _ | .deskClockSecond _ => true
  | _ => false

/-- A command that is `act` of an effect which leaves the queue and the timebase alone. -/
def WrappedEffect (c : Instr) : Prop :=
  ∃ f : State → State, (∀ x, queueTime (f x) = queueTime x) ∧ ∀ s, exec c s = act (timeOf c) f s

theorem wrapped {c : Instr} {f : State → State} (eq : ∀ s, exec c s = act (timeOf c) f s)
    (keeps : ∀ x, queueTime (f x) = queueTime x) : WrappedEffect c := ⟨f, keeps, eq⟩

theorem wrapped_session {c : Instr} {f : State → State} (eq : ∀ s, exec c s = act (timeOf c) f s)
    (keeps : ∀ x, sessionPart (f x) = sessionPart x) : WrappedEffect c :=
  wrapped eq fun x => queueTime_of_sessionPart (keeps x)

/-- Every other command is `act` of such an effect. -/
theorem exec_eq_act (c : Instr) (h : unwrapped c = false) : WrappedEffect c := by
  cases c with
  | powerOn | warmReset | resetRelease | deskAccess | deskClockSecond => exact absurd h (by simp [unwrapped])
  | arbiterGrant t => exact wrapped (fun _ => rfl) queueTime_arbitrate
  | deskWrite t => exact wrapped (fun _ => rfl) (queueTime_endForward _ _ _ fun _ _ => rfl)
  | deskRead t => exact wrapped (fun _ => rfl) (queueTime_endForward _ _ _ fun _ _ => rfl)
  | postWordWrite t =>
    refine wrapped (fun _ => rfl) (queueTime_endForward _ _ _ fun e x => ?_)
    cases e with
    | post j => exact queueTime_postSlot j x
    | _ => rfl
  | markWordWrite t =>
    refine wrapped (fun _ => rfl) (queueTime_endForward _ _ _ fun e x => ?_)
    cases e with
    | mark i => exact queueTime_takeSlot i x
    | _ => rfl
  | loadWordWrite t => exact wrapped (fun _ => rfl) (queueTime_endForward _ _ _ fun _ x => queueTime_startLoad x)
  | clearWordWrite t =>
    refine wrapped (fun _ => rfl) (queueTime_endForward _ _ _ fun e x => ?_)
    cases e with
    | clear cs => rfl
    | _ => rfl
  | checkUpkeepUnitEnd t composed => exact wrapped (fun _ => rfl) (queueTime_endUpkeep composed)
  | scanLineWriteEnd t => exact wrapped (fun _ => rfl) queueTime_endScanLine
  | lineFetchEnd t => exact wrapped (fun _ => rfl) queueTime_endLineFetch
  | trailerFlagUnitEnd t => exact wrapped (fun _ => rfl) queueTime_endTrailerFlag
  | slipRecordWriteEnd t => exact wrapped (fun _ => rfl) queueTime_endSlipWrite
  | statusRecordWriteEnd t => exact wrapped (fun _ => rfl) queueTime_endStatusWrite
  | intakeReaderTake t => exact wrapped (fun _ => rfl) queueTime_readerTake
  | jobRecordReadEnd t => exact wrapped (fun _ => rfl) queueTime_endJobRead
  | scan t => exact wrapped (fun _ => rfl) (queueTime_takenJob .scan)
  | send t => exact wrapped (fun _ => rfl) (queueTime_takenJob .send)
  | abortJob t => exact wrapped (fun _ => rfl) (queueTime_takenJob .abortJob)
  | abortPicture t => exact wrapped (fun _ => rfl) (queueTime_takenJob .abortPicture)
  | releasePicture t => exact wrapped (fun _ => rfl) (queueTime_takenJob .releasePicture)
  | holdPort t => exact wrapped (fun _ => rfl) (queueTime_takenJob .holdPort)
  | resumePort t => exact wrapped (fun _ => rfl) (queueTime_takenJob .resumePort)
  | resultWordWriteEnd t => exact wrapped (fun _ => rfl) queueTime_endResultWrite
  | setupPartReadEnd t => exact wrapped (fun _ => rfl) queueTime_endSetupPart
  | loadResultWriteEnd t => exact wrapped (fun _ => rfl) queueTime_endLoadResult
  | tachPulse t => exact wrapped (fun _ => rfl) queueTime_tachPulse
  | indexPulse t =>
    exact wrapped (f := fun s => if looping s.drum.state then indexPulse s else s) (fun _ => rfl) fun x =>
      queueTime_ite _ (queueTime_indexPulse x)
  | conversionRequest t =>
    exact wrapped (f := fun s => modPipe (conversionRequest s.now) s) (fun _ => rfl) fun x => queueTime_modPipe _ x
  | codeReady t code => exact wrapped (fun _ => rfl) fun x => queueTime_modPipe _ x
  | stallTimerExpiry t =>
    exact wrapped (f := fun s => if due s.drum.stall s.now then drumFault .stall s else s) (fun _ => rfl) fun x =>
      queueTime_ite _ (queueTime_drumFault _ x)
  | spinUpTimerExpiry t =>
    exact wrapped (f := fun s => if due s.drum.spinUp s.now then drumFault .spinUp s else s) (fun _ => rfl) fun x =>
      queueTime_ite _ (queueTime_drumFault _ x)
  | slipTimerExpiry t =>
    exact wrapped (f := fun s => if due s.drum.slip s.now then drumFault .slip s else s) (fun _ => rfl) fun x =>
      queueTime_ite _ (queueTime_drumFault _ x)
  | idleSpinTimerExpiry t =>
    exact wrapped (f := fun s => if due s.drum.idleSpin s.now then modDrum (enterStopping s.now) s else s) (fun _ => rfl) fun x =>
      queueTime_ite _ (queueTime_modDrum _ x)
  | coastTimerExpiry t =>
    exact wrapped (f := fun s => if due s.drum.coast s.now then modDrum enterStopped s else s) (fun _ => rfl) fun x =>
      queueTime_ite _ (queueTime_modDrum _ x)
  | coverOpen t => exact wrapped (fun _ => rfl) queueTime_openCover
  | coverClose t => exact wrapped (fun _ => rfl) (queueTime_modDrum _)
  | settleTimerExpiry t => exact wrapped (fun _ => rfl) queueTime_settleLamp
  | homingStep t => exact wrapped (f := fun s => modDrum (homingStep s.now) s) (fun _ => rfl) fun x => queueTime_modDrum _ x
  | homeSwitchClose t => exact wrapped (fun _ => rfl) queueTime_closeHome
  | homeSwitchOpen t => exact wrapped (fun _ => rfl) (queueTime_modDrum _)
  | homingLimitExpiry t =>
    exact wrapped (f := fun s => if homingLimitReached s.now s.drum.carriage then drumFault .carriage s else s) (fun _ => rfl) fun x =>
      queueTime_ite _ (queueTime_drumFault _ x)
  | carriageStep t => exact wrapped (f := fun s => modDrum (carriageStep s.now) s) (fun _ => rfl) fun x => queueTime_modDrum _ x
  | startLimitTimerExpiry t => exact wrapped (fun _ => rfl) queueTime_startLimitExpiry
  | frameTransferEnd t p => exact wrapped_session (fun _ => rfl) fun x => sessionPart_frameEnd p x
  | up t p => exact wrapped_session (fun _ => rfl) fun x => sessionPart_takeUp p x
  | fail t p cause => exact wrapped_session (fun _ => rfl) fun x => sessionPart_takeFail p cause x
  | doneItem t p => exact wrapped_session (fun _ => rfl) fun x => sessionPart_takeDoneItem p x
  | doneFlush t p => exact wrapped_session (fun _ => rfl) fun x => sessionPart_takeDoneFlush p x
  | slack t p => exact wrapped_session (fun _ => rfl) fun x => sessionPart_takeSlack p x
  | heard t p code duration data =>
    exact wrapped_session (fun _ => rfl) fun x => sessionPart_takeHeard p code duration.toNat data x
  | ready t p rpm ioc capable => exact wrapped_session (fun _ => rfl) fun x => sessionPart_hearSignal p _ _ x
  | phased t p | goodA t p | goodB t p | again t p | wait t p | hang t p =>
    exact wrapped_session (fun _ => rfl) fun x => sessionPart_hearSignal p _ _ x
  | receipt t p number => exact wrapped_session (fun _ => rfl) fun x => sessionPart_hearSignal p _ _ x
  | dropCarrier t p => exact wrapped_session (fun _ => rfl) fun x => sessionPart_takeDropCarrier p x
  | dropOnHook t p => exact wrapped_session (fun _ => rfl) fun x => sessionPart_takeDropOnHook p x
  | reportDiscarded t p frame => exact wrapped (f := id) (fun _ => rfl) fun _ => rfl
  | releaseTimerExpiry t p => exact wrapped_session (fun _ => rfl) fun x => sessionPart_releaseExpiry p x
  | seizeTimerExpiry t p =>
    exact wrapped_session (fun _ => rfl) fun x => sessionPart_expire .seize _ p x fun y => sessionPart_endSession p _ _ y
  | readyTimerExpiry t p =>
    exact wrapped_session (fun _ => rfl) fun x => sessionPart_expire .ready _ p x fun y => sessionPart_endSession p _ _ y
  | phasedTimerExpiry t p =>
    exact wrapped_session (fun _ => rfl) fun x => sessionPart_expire .phased _ p x fun y => sessionPart_phasedExpiry p y
  | verdictTimerExpiry t p =>
    exact wrapped_session (fun _ => rfl) fun x => sessionPart_expire .verdict _ p x fun y => sessionPart_verdictExpiry p y
  | waitTimerExpiry t p =>
    exact wrapped_session (fun _ => rfl) fun x => sessionPart_expire .wait _ p x fun y => sessionPart_waitExpiry p y
  | quietTimerExpiry t p =>
    exact wrapped_session (fun _ => rfl) fun x => sessionPart_expire .quiet _ p x fun y => sessionPart_bandStart p y
  | receiptTimerExpiry t p =>
    exact wrapped_session (fun _ => rfl) fun x => sessionPart_expire .receipt _ p x fun y => sessionPart_endClose p _ y

/-- While RESET is low a command wrapped in `act` only lets time pass (log 22). -/
theorem act_inReset (t : Nat) (f : State → State) (s : State) (h : s.inReset = true) : act t f s = .next (advance t s) := by
  unfold act
  simp only [show (advance t s).inReset = true from h, if_true]

/-- What `act` leaves of the queue and the timebase. -/
theorem act_answersNext (t : Nat) (f : State → State) (s : State) (h : ∀ x, queueTime (f x) = queueTime x) :
    ∃ s', act t f s = .next s' ∧ queueTime s' = queueTime (advance t s) := by
  refine ⟨_, rfl, ?_⟩
  split
  · rfl
  · rw [queueTime_noteChanges, h]

/-- Every command answers a next state, with the queue and the timebase that `advance` leaves. -/
theorem exec_answersNext (c : Instr) (s : State) :
    ∃ s', exec c s = .next s' ∧ queueTime s' = queueTime (advance (timeOf c) s) := by
  cases wraps : unwrapped c with
  | false =>
    obtain ⟨f, keeps, eq⟩ := exec_eq_act c wraps
    rw [eq]
    exact act_answersNext _ f s keeps
  | true =>
    cases c with
    | powerOn t => exact ⟨_, rfl, rfl⟩
    | warmReset t made =>
      refine ⟨_, rfl, ?_⟩
      split <;> rfl
    | resetRelease t k o h =>
      refine ⟨_, rfl, ?_⟩
      dsimp only
      split <;> rfl
    | deskAccess t a =>
      refine ⟨_, rfl, ?_⟩
      dsimp only
      split <;> rfl
    | deskClockSecond t =>
      refine ⟨_, rfl, ?_⟩
      split
      · exact queueTime_clockSecond _
      · rw [queueTime_noteChanges, queueTime_clockSecond]
        rfl
    | _ => exact absurd wraps Bool.false_ne_true

/-- Settles O2: all but five commands are `act` of an effect that keeps the queue and the timebase; the five are read off. -/
theorem everyCommandAnswersNext : Obligations.EveryCommandAnswersNext := by
  refine ⟨fun c s => ?_, fun c s inReset notPowerOn notRelease notAccess notSecond => ?_⟩
  · obtain ⟨s', eq, keeps⟩ := exec_answersNext c s
    obtain ⟨pending, now⟩ := Prod.mk.inj keeps
    exact ⟨s', eq, pending, now⟩
  · cases wraps : unwrapped c with
    | false =>
      obtain ⟨f, -, eq⟩ := exec_eq_act c wraps
      rw [eq]
      exact act_inReset _ f s inReset
    | true =>
      cases c with
      | powerOn t => exact absurd rfl (notPowerOn t)
      | resetRelease t k o h => exact absurd rfl (notRelease t k o h)
      | deskAccess t a => exact absurd rfl (notAccess t a)
      | deskClockSecond t => exact absurd rfl (notSecond t)
      | warmReset t made =>
        have key : exec (.warmReset t made) s = .next (if s.inReset then advance t s else warmed made (advance t s)) := rfl
        rw [key, inReset]
        rfl
      | _ => exact absurd wraps Bool.false_ne_true

end Sys2Proof.Machine
end

section
/-! PROOFS. The Memory Arbiter: which request is granted, and what the grant of each request starts (O7, O6, O8). -/

namespace Sys2Proof.Machine

/-! ### The lowest index with a property -/

/-- A search through all indexes in order finds the lowest with the property. -/
theorem find?_finRange_eq_some {n : Nat} {p : Fin n → Bool} {i : Fin n} :
    (List.finRange n).find? p = some i ↔ p i = true ∧ ∀ j < i, p j = false := by
  rw [List.find?_eq_some_iff_getElem]
  constructor
  · rintro ⟨hp, m, hm, hi, below⟩
    refine ⟨hp, fun j hj => ?_⟩
    have him : i.val = m := by simp [← hi]
    simpa using below j.val (by omega)
  · rintro ⟨hp, below⟩
    refine ⟨hp, i.val, by simp, by simp, fun j hj => ?_⟩
    simpa using below ⟨j, by omega⟩ hj

theorem find?_cons_ite {α : Type} (p : α → Bool) (a : α) (l : List α) :
    (a :: l).find? p = if p a = true then some a else l.find? p := by
  cases h : p a <;> simp [h]

/-- A search through all indexes finds none just where none has the property. -/
theorem find?_finRange_eq_none {n : Nat} {p : Fin n → Bool} : (List.finRange n).find? p = none ↔ ∀ i, p i = false := by
  simp

/-! ### The order of the requests -/

/-- The request stands, as the arbiter tests it. -/
def stands (s : State) : Requester → Bool
  | .scanWriter => anyFull s.pipe
  | .desk => s.desk.access.isSome
  | .lineFetch p => presentable s p
  | .intakeReader => (intakeUnit s).isSome
  | .setupLoader => (loaderUnit s).isSome
  | .slipWriter => (slipUnit s).isSome
  | .trailerWriter => !s.trailers.isEmpty
  | .statusWriter => (statusPick s).isSome

theorem stands_iff (s : State) (r : Requester) : stands s r = true ↔ Standing s r := by
  cases r with
  | trailerWriter => simp [stands, Standing]
  | _ => rfl

/-- R14, R15, R16: one request ranks before another, by level and then by place within the level. -/
def outranks (s : State) (r r' : Requester) : Prop :=
  (rank s r).1 < (rank s r').1 ∨ (rank s r).1 = (rank s r').1 ∧ (rank s r).2 < (rank s r').2

/-- The requests of the levels 4 to 7. -/
def lowRequests : List Requester :=
  allPorts.map .lineFetch ++ [.intakeReader, .setupLoader, .slipWriter, .trailerWriter, .statusWriter]

/-- All requests in the order the arbiter tries them: the scan writer stands before the desk while both its buffers are FULL (R15). -/
def byRank (s : State) : List Requester :=
  if bothFull s.pipe then .scanWriter :: .desk :: lowRequests else .desk :: .scanWriter :: lowRequests

theorem mem_byRank (s : State) (r : Requester) : r ∈ byRank s := by
  have port : ∀ p : PortNo, p ∈ allPorts := by decide
  unfold byRank lowRequests
  cases r <;> split <;> simp [port]

theorem byRank_sorted (s : State) : (byRank s).Pairwise (outranks s) := by
  unfold byRank
  split <;> simp [lowRequests, allPorts, outranks, rank, *]

theorem anyFull_of_bothFull {q : Pipeline} (h : bothFull q = true) : anyFull q = true := by
  unfold bothFull at h
  simp_all [anyFull]

/-- R14: the request granted is the first in order that stands. -/
theorem nextRequest_eq (s : State) : nextRequest s = (byRank s).find? (stands s) := by
  have ports : (allPorts.map Requester.lineFetch).find? (stands s) = (eligiblePort s).map .lineFetch := by
    rw [List.find?_map]
    rfl
  have low : lowRequests.find? (stands s) =
      match eligiblePort s with
      | some p => some (.lineFetch p)
      | none =>
        if (intakeUnit s).isSome then some .intakeReader
        else if (loaderUnit s).isSome then some .setupLoader
        else if (slipUnit s).isSome then some .slipWriter
        else if !s.trailers.isEmpty then some .trailerWriter
        else if (statusPick s).isSome then some .statusWriter
        else none := by
    unfold lowRequests
    rw [List.find?_append, ports]
    cases eligiblePort s with
    | some p => rfl
    | none =>
      rw [Option.map_none, Option.none_or, find?_cons_ite, find?_cons_ite, find?_cons_ite, find?_cons_ite, find?_cons_ite,
        List.find?_nil]
      rfl
  unfold byRank nextRequest
  by_cases both : bothFull s.pipe = true
  · have full : stands s .scanWriter = true := anyFull_of_bothFull both
    rw [if_pos both, if_pos both, find?_cons_ite, if_pos full]
  · rw [if_neg both, if_neg both, find?_cons_ite, find?_cons_ite, low]
    rfl

/-- R14, R15, R16: the request granted stands and outranks every other that stands. -/
theorem nextRequest_highest {s : State} {r : Requester} (h : nextRequest s = some r) :
    Standing s r ∧ ∀ r', Standing s r' → r' ≠ r → outranks s r r' := by
  rw [nextRequest_eq, List.find?_eq_some_iff_append] at h
  obtain ⟨found, before, after, order, none_before⟩ := h
  refine ⟨(stands_iff s r).1 found, fun r' standing ne => ?_⟩
  have sorted := byRank_sorted s
  have mem := mem_byRank s r'
  rw [order] at sorted mem
  rcases List.mem_append.1 mem with early | late
  · have := none_before r' early
    simp [(stands_iff s r').2 standing] at this
  · have later : r' ∈ after := (List.mem_cons.1 late).resolve_left ne
    exact List.rel_of_pairwise_cons (List.pairwise_append.1 sorted).2.1 later

theorem nextRequest_none {s : State} (h : nextRequest s = none) (r : Requester) : ¬Standing s r := by
  rw [nextRequest_eq, List.find?_eq_none] at h
  rw [← stands_iff]
  exact h r (mem_byRank s r)

/-! ### The grant as a command -/

/-- Time has no part in which request is granted. -/
theorem nextRequest_advance (t : Nat) (s : State) : nextRequest (advance t s) = nextRequest s := rfl

/-- R14: an idle arbiter grants the request. -/
theorem exec_arbiterGrant {s : State} {r : Requester} (t : Nat) (running : s.inReset = false) (idle : s.unit = none)
    (next : nextRequest s = some r) :
    exec (.arbiterGrant t) s = .next (noteChanges (advance t s) (grant r (advance t s))) := by
  have idle' : (advance t s).unit = none := idle
  have granted : arbitrate (advance t s) = grant r (advance t s) := by
    simp only [arbitrate, idle', Option.isNone_none, if_true, nextRequest_advance, next]
  rw [← granted]
  exact act_running t arbitrate s running

/-- R14: a request waits while a unit is in progress, and without a request nothing is granted. -/
theorem arbitrate_waits {s : State} (h : s.unit.isSome ∨ nextRequest s = none) : arbitrate s = s := by
  unfold arbitrate
  rcases h with busy | none
  · rw [if_neg (by simp [Option.isSome_iff_ne_none.1 busy])]
  · rw [none]
    exact ite_self s

theorem act_unchanged {t : Nat} {f : State → State} {s : State} (h : f (advance t s) = advance t s) :
    act t f s = .next (advance t s) := by
  simp only [act, h, noteChanges_self, ite_self]

/-- Settles O7: the arbiter takes the first request that stands in a list sorted by rank. -/
theorem grantGoesToTheHighestLevel : Obligations.GrantGoesToTheHighestLevel :=
  ⟨fun _ => ⟨fun _ granted => nextRequest_highest granted, nextRequest_none⟩,
    fun _ _ waits => act_unchanged (arbitrate_waits waits)⟩

/-! ### The desk -/

theorem grantDesk_unit {s : State} {x : DeskAccess} {form : DeskForm} (held : s.desk.access = some x)
    (h : classify s x = .unit form) : grantDesk s = { s with unit := some (.desk x form) } := by
  simp only [grantDesk, held, h]

theorem grantDesk_trailerDrop {s : State} {x : DeskAccess} (held : s.desk.access = some x) (h : classify s x = .trailerDrop) :
    grantDesk s = { s with
      desk := { s.desk with access := none }, drops := { s.drops with trailer := bump max32 s.drops.trailer } } := by
  simp only [grantDesk, held, h]

theorem grantDesk_collisionDrop {s : State} {x : DeskAccess} {k : Fin 16} (held : s.desk.access = some x)
    (h : classify s x = .collisionDrop k) :
    grantDesk s = { s with
      desk := { s.desk with access := none }, drops := { s.drops with collision := bump max32 s.drops.collision }
      pics := s.pics.set k { s.pics[k] with collisionDrops := bump max16 s.pics[k].collisionDrops }
      notice := { s.notice with flags := s.notice.flags ||| BitVec.twoPow 9 classDrop } } := by
  simp only [grantDesk, held, h]
  rfl

theorem grantDesk_statusDrop {s : State} {x : DeskAccess} (held : s.desk.access = some x) (h : classify s x = .statusDrop) :
    grantDesk s = { s with
      desk := { s.desk with access := none }, drops := { s.drops with status := bump max32 s.drops.status } } := by
  simp only [grantDesk, held, h]

/-- R3: the arrival of an access. -/
theorem exec_deskAccess (t : Nat) (x : DeskAccess) (s : State) : exec (.deskAccess t x) s = .next
    (if s.desk.access.isNone then { advance t s with desk := { s.desk with access := some x } } else advance t s) := rfl

/-- Settles O6: an arrival is read off its command; a grant follows the class of the access. -/
theorem deskAccessesAreHeldAndGranted : Obligations.DeskAccessesAreHeldAndGranted := by
  refine ⟨fun t x s => ⟨fun free => ?_, fun y held => ?_⟩, fun t s x running idle next held => ?_⟩
  · rw [exec_deskAccess, free]
    rfl
  · rw [exec_deskAccess, held]
    rfl
  · have held' : (advance t s).desk.access = some x := held
    have granted := exec_arbiterGrant t running idle next
    have desk : grant .desk (advance t s) = grantDesk (advance t s) := rfl
    rw [desk] at granted
    refine ⟨fun form class_ => ?_, fun class_ => ?_, fun k class_ => ?_, fun class_ => ?_⟩
    · rw [granted, grantDesk_unit held' class_]
    · rw [granted, grantDesk_trailerDrop held' class_]
      rfl
    · rw [granted, grantDesk_collisionDrop held' class_]
      rfl
    · rw [granted, grantDesk_statusDrop held' class_]
      rfl

end Sys2Proof.Machine
end

section
/-! PROOFS. What a grant starts for each of the part's own agents, and the layout of slips and status records (O8). -/

namespace Sys2Proof.Machine

/-! ### Fields as bytes -/

/-- A two-byte field, low byte first. -/
theorem leBytes_two (v : Nat) : leBytes 2 v = [BitVec.ofNat 8 v, BitVec.ofNat 8 (v / 256)] := rfl

/-- A four-byte field, low byte first. -/
theorem leBytes_four (v : Nat) :
    leBytes 4 v = [BitVec.ofNat 8 v, BitVec.ofNat 8 (v / 256), BitVec.ofNat 8 (v / 65536), BitVec.ofNat 8 (v / 16777216)] := by
  simp only [leBytes, Nat.div_div_eq_div_mul]

@[simp] theorem length_leBytes (n v : Nat) : (leBytes n v).length = n := by
  induction n generalizing v with
  | zero => rfl
  | succ n ih => rw [leBytes, List.length_cons, ih]

theorem leSat_one (v : Nat) : leSat 1 v = [BitVec.ofNat 8 (min v 255)] := rfl

theorem leSat_two (v : Nat) : leSat 2 v = [BitVec.ofNat 8 (min v 65535), BitVec.ofNat 8 (min v 65535 / 256)] := rfl

/-- A record of known length is filled up with a known number of zero bytes. -/
theorem padTo_eq {n m : Nat} {r : List Byte} (h : r.length + m = n) : padTo n r = r ++ List.replicate m 0 := by
  rw [padTo, show n - r.length = m by omega]

theorem flagByte_eq (b : Bool) : flagByte b = if b then 1 else 0 := rfl

/-! ### Slips -/

/-- R181: the flags byte of a slip, bit by bit. -/
theorem slipFlags_eq (x : Slip) : slipFlags x = BitVec.ofNat 8
    ((if x.counts.receiptPresent then 1 else 0) + (if x.counts.startedLive then 2 else 0) + (if x.counts.leftLive then 4 else 0) +
      (if x.bumped then 8 else 0) + if x.counts.captionSent then 16 else 0) := by
  unfold slipFlags
  cases x.counts.receiptPresent <;> cases x.counts.startedLive <;> cases x.counts.leftLive <;> cases x.bumped <;>
    cases x.counts.captionSent <;> rfl

/-- A destination of eight bytes stands in a slip as it is. -/
theorem take_padTo_of_length {n : Nat} {r : List Byte} (h : r.length = n) : (padTo n r).take n = r := by
  rw [padTo_eq (m := 0) (by omega)]
  simp [← h]

/-! ### Status records -/

theorem picStateCode_byte (st : PicState) :
    BitVec.ofNat 8 (picStateCode st) = match st with | .empty => 0 | .scanning => 1 | .complete => 2 | .cut => 3 := by
  cases st <;> rfl

theorem cutCode_byte (c : CutCause) :
    BitVec.ofNat 8 (cutCode c) = match c with | .noCause => 0 | .drumFault => 1 | .referenceLost => 2 | .aborted => 3 := by
  cases c <;> rfl

theorem drumCode_byte (st : DrumState) : BitVec.ofNat 8 (drumCode st) =
    match st with | .stopped => 0 | .spinUp => 1 | .locked => 2 | .slipped => 3 | .stopping => 4 | .fault => 5 := by
  cases st <;> rfl

theorem faultCode_byte (c : FaultCause) : BitVec.ofNat 8 (faultCode c) =
    match c with | .noFault => 0 | .stall => 1 | .spinUp => 2 | .slip => 3 | .cover => 4 | .carriage => 5 := by
  cases c <;> rfl

theorem lampCode_byte (l : Lamp) : BitVec.ofNat 8 (lampCode l) = match l with | .off => 0 | .warming => 1 | .ready => 2 := by
  cases l <;> rfl

theorem carriageCode_byte (c : Carriage) :
    BitVec.ofNat 8 (carriageCode c) = match c with | .unknown => 0 | .homing _ _ => 1 | .known _ => 2 := by
  cases c <;> rfl

theorem positionField_eq (c : Carriage) : positionField c = match c with | .known x => x | _ => 0xFFFFFFFF := by
  cases c <;> rfl

theorem sessionCode_byte (st : SessionState) : BitVec.ofNat 8 (sessionCode st) =
    match st with
    | .idle => 0 | .seizing => 1 | .calling => 2 | .caption => 3 | .phasing => 4 | .awaitPhased => 5 | .sending => 6
    | .awaitVerdict => 7 | .waiting => 8 | .quiet => 9 | .standby => 10 | .held => 11 | .closing => 12 | .parting => 13
    | .releasing => 14 | .slipWait => 15 := by
  cases st <;> rfl

theorem noBand_iff (st : SessionState) : noBand st = true ↔ st = .idle ∨ st = .slipWait := by
  simp [noBand]

/-- R183: the area of a picture's record holds the record of the picture. -/
theorem recordBytes_picture (s : State) (free : Nat → Byte) (k : Fin 16) :
    recordBytes s free (4 + k.val) = padTo 31 (pictureRecordBytes s.pics[k]) := by
  have len : areaLen (4 + k.val) = 32 := by
    unfold areaLen
    rw [if_neg (by omega), if_pos (by omega)]
  have pic : (Fin.ofNat 16 (4 + k.val - 4)) = k := by
    ext
    simp
  unfold recordBytes
  rw [len]
  split
  case h_8 =>
    rw [if_pos (by omega)]
    simp only [pic]
  all_goals omega

/-- R183: the area of a port's record holds the record of the port. -/
theorem recordBytes_port (s : State) (free : Nat → Byte) (p : PortNo) :
    recordBytes s free (20 + p.val) = padTo 15 (portRecord s.ports[p] free) := by
  have len : areaLen (20 + p.val) = 16 := by
    unfold areaLen
    rw [if_neg (by omega), if_neg (by omega), if_pos (by omega)]
  have port : (Fin.ofNat 4 (20 + p.val - 20)) = p := by
    ext
    simp
  unfold recordBytes
  rw [len]
  split
  case h_8 =>
    rw [if_neg (by omega)]
    simp only [port]
  all_goals omega

/-! ### The grants of the part's own agents -/

/-- The status writer's pick is the lowest-numbered flagged record. -/
theorem statusPick_eq {s : State} {b : Nat} {i : Fin 27} (base : statusBase s = some b) (flagged : s.status.changed[i] = true)
    (lowest : ∀ j : Fin 27, j < i → s.status.changed[j] = false) : statusPick s = some i := by
  unfold statusPick
  rw [base, Option.isSome_some, if_pos rfl]
  exact find?_finRange_eq_some.2 ⟨flagged, lowest⟩

/-- R173: the grant of a status record write, its record and base known. -/
theorem grantStatus_eq {s : State} {b : Nat} {i : Fin 27} (base : statusBase s = some b) (pick : statusPick s = some i) :
    grantStatus s = { s with
      status := { changed := s.status.changed.set i false
                  rewrites := s.status.rewrites.set i (bump max48 s.status.rewrites[i]) }
      unit := some (.statusWrite i (b + areaOffset i.val)
        (recordBytes s (fun o => Config.freeStatusByte i.val o (bump max48 s.status.rewrites[i])) i.val)
        (BitVec.ofNat 8 (bump max48 s.status.rewrites[i]))) } := by
  unfold grantStatus
  rw [base, pick]

theorem slipUnit_eq {s : State} {x : Slip} {rest : List Slip} {n b : Nat} (writing : s.composer.writer = .writing)
    (pending : s.composer.pending = x :: rest) (serial : s.composer.nextSerial = some n) (base : slipsBase s = some b) :
    slipUnit s = some (.slipWrite s.composer.index (b + 64 * s.composer.index) (slipBytes n x)) := by
  simp only [slipUnit, writing, pending, serial, base, if_true]

/-- The slip writer asks only in WRITING. -/
theorem writing_of_slipUnit {s : State} (h : (slipUnit s).isSome) : s.composer.writer = .writing := by
  unfold slipUnit at h
  by_contra other
  simp [other] at h

theorem grantScanLine_eq {s : State} {e : LineEntry} (h : s.pipe.buffers[fullBuffer s.pipe] = some e) :
    grantScanLine s = { s with
      unit := some (.scanLine (fullBuffer s.pipe) (lineAddrOf s.cfg.slots[e.pic].base (entryStride e) e.line)) } := by
  unfold grantScanLine
  dsimp only
  rw [h]

theorem intakeUnit_reading {s : State} {h : Hand} (hand : s.intake.hand = some h) (phase : h.phase = .reading) :
    intakeUnit s = some (.jobRead h.addr) := by
  simp only [intakeUnit, hand, phase]

theorem intakeUnit_caption {s : State} {h : Hand} {c : CaptionRead} {rest : List CaptionRead} (hand : s.intake.hand = some h)
    (phase : h.phase = .caption) (todo : h.todo = c :: rest) : intakeUnit s = some (.jobRead c.slotAddr) := by
  simp only [intakeUnit, hand, phase, todo, List.head?_cons, Option.map_some]

theorem intakeUnit_answering {s : State} {h : Hand} (hand : s.intake.hand = some h) (phase : h.phase = .answering) :
    intakeUnit s = some (.resultWrite (h.addr + 4) h.result) := by
  simp only [intakeUnit, hand, phase]

theorem loaderUnit_reading {s : State} {part : Nat} (phase : s.loader.phase = .reading part) :
    loaderUnit s = some (.setupPart part) := by
  simp only [loaderUnit, phase]

theorem loaderUnit_answering {s : State} {w : List Byte} (phase : s.loader.phase = .answering w) :
    loaderUnit s = some (.loadResult w) := by
  simp only [loaderUnit, phase]

/-- The grants that change nothing but the unit in progress. -/
theorem exec_grant_starts {s : State} {r : Requester} {u : BusUnit} (t : Nat) (running : s.inReset = false) (idle : s.unit = none)
    (next : nextRequest s = some r) (started : grant r (advance t s) = { advance t s with unit := some u }) :
    exec (.arbiterGrant t) s = .next (noteChanges (advance t s) { advance t s with unit := some u }) := by
  have run := exec_arbiterGrant t running idle next
  rwa [started] at run

/-- Only the low eight bits of a count stand in a byte. -/
theorem byte_mod (n : Nat) : BitVec.ofNat 8 (n % 256) = BitVec.ofNat 8 n := by
  apply BitVec.eq_of_toNat_eq
  simp

/-- Settles O8: each request's unit is read off its agent, and each layout off the record's fields. -/
theorem grantStartsTheUnitAskedFor : Obligations.GrantStartsTheUnitAskedFor := by
  refine ⟨fun t s running idle => ⟨fun h next hand => ⟨fun phase => ?reading, fun c rest phase todo => ?caption, fun phase => ?answer⟩,
    fun next => ⟨fun part phase => ?setupPart, fun w phase => ?loadResult⟩, fun x rest n b next pending serial base => ?slip,
    fun f rest next list => ?trailer, fun b e next buffer entry => ?scanLine⟩,
    fun t s i b running idle next base flagged lowest => ?status, ?layouts⟩
  case reading =>
    exact exec_grant_starts t running idle next (by rw [grant, intakeUnit_reading (s := advance t s) hand phase])
  case caption =>
    exact exec_grant_starts t running idle next (by rw [grant, intakeUnit_caption (s := advance t s) hand phase todo])
  case answer =>
    exact exec_grant_starts t running idle next (by rw [grant, intakeUnit_answering (s := advance t s) hand phase])
  case setupPart =>
    exact exec_grant_starts t running idle next (by rw [grant, loaderUnit_reading (s := advance t s) phase])
  case loadResult =>
    exact exec_grant_starts t running idle next (by rw [grant, loaderUnit_answering (s := advance t s) phase])
  case slip =>
    have writing := writing_of_slipUnit (nextRequest_highest next).1
    exact exec_grant_starts t running idle next
      (by rw [grant, slipUnit_eq (s := advance t s) writing pending serial base]; rfl)
  case trailer =>
    have head : (advance t s).trailers.head? = some f := by
      rw [show (advance t s).trailers = f :: rest from list, List.head?_cons]
    exact exec_grant_starts t running idle next (by rw [grant, head]; rfl)
  case scanLine =>
    subst buffer
    exact exec_grant_starts t running idle next (grantScanLine_eq (s := advance t s) entry)
  case status =>
    have pick : statusPick (advance t s) = some i := statusPick_eq (s := advance t s) base flagged lowest
    have start := exec_arbiterGrant t running idle next
    rw [grant, grantStatus_eq (s := advance t s) base pick, ← byte_mod] at start
    exact start
  case layouts =>
    intro b w2 w4 flag zeros
    refine ⟨?slip, ?areas, ?records⟩
    case areas => decide
    case slip =>
      intro serial x dest c s1 s2 bit outcome
      have four : ∀ v, leBytes 4 v = w4 v := leBytes_four
      have code : outcomeCode x.outcome = outcome := by
        simp only [outcome]
        cases x.outcome <;> rfl
      unfold slipBytes
      rw [take_padTo_of_length dest, slipFlags_eq, code]
      simp only [leSat_two, leSat_one, four]
      rfl
    case records =>
      intro s free record d drops
      have four : ∀ v, leBytes 4 v = w4 v := leBytes_four
      refine ⟨?id, fun result => ?general, ?notice, ?drum, fun k => ?picture, fun p => ?port, ?counters, fun f latch => ?latch,
        fun latch => ?noLatch, ?ring⟩
      case id =>
        rw [show record 0 = idRecord s ++ zeros 9 from padTo_eq rfl, idRecord, ← BitVec.ofNat_toNat]
      case general =>
        have len : (generalRecord s).length + 3 = areaLen 1 - 1 := by simp [generalRecord, result, areaLen]
        rw [show record 1 = generalRecord s ++ zeros 3 from padTo_eq len, generalRecord, four]
        cases s.resetCause <;> rfl
      case notice =>
        rw [show record 2 = noticeRecord s ++ zeros 9 from padTo_eq rfl, noticeRecord]
        cases lowestPending s.notice <;> rfl
      case drum =>
        rw [show record 3 = drumRecord d ++ zeros 11 from padTo_eq rfl, drumRecord]
        rw [drumCode_byte, faultCode_byte, lampCode_byte, carriageCode_byte, positionField_eq, four, four]
        rfl
      case picture =>
        intro r
        rw [show record (4 + k.val) = pictureRecordBytes r ++ zeros 3 from (recordBytes_picture s free k).trans (padTo_eq rfl),
          pictureRecordBytes, four, picStateCode_byte, cutCode_byte]
        rfl
      case port =>
        intro q state
        rw [show record (20 + p.val) = portRecord q free ++ zeros 7 from (recordBytes_port s free p).trans (padTo_eq rfl),
          portRecord, sessionCode_byte]
        simp only [noBand_iff]
        cases q.active <;> rfl
      case counters =>
        rw [show record 24 = countersRecord s ++ zeros 15 from padTo_eq rfl, countersRecord]
        simp only [four]
        rfl
      case latch =>
        rw [show record 25 = padTo 15 (latchRecord s.store.latch free) from rfl, latch,
          padTo_eq (n := 15) (m := 7) (r := latchRecord (some f) free) rfl, latchRecord, four]
        rfl
      case noLatch =>
        rw [show record 25 = padTo 15 (latchRecord s.store.latch free) from rfl, latch,
          padTo_eq (n := 15) (m := 7) (r := latchRecord none free) rfl]
        rfl
      case ring =>
        rw [show record 26 = ringRecord s.composer ++ zeros 10 from padTo_eq rfl, ringRecord, untaken,
          List.countP_eq_length_filter]
        rfl

end Sys2Proof.Machine
end

section
/-! PROOFS. How a desk access is classified, and the judgement of a picture-line write (O9). -/

namespace Sys2Proof.Machine

/-! ### Bits of a run of bytes -/

/-- R178: bit `i` of the number a run of bytes spells stands in byte `i / 8`. -/
theorem testBit_leNat (bs : List Byte) (i : Nat) : (leNat bs).testBit i = (bs.getD (i / 8) 0).getLsbD (i % 8) := by
  induction bs generalizing i with
  | nil => simp
  | cons b rest ih =>
    rw [leNat_cons, Nat.add_comm, show 256 = 2 ^ 8 from rfl, Nat.testBit_two_pow_mul_add _ b.isLt]
    split
    · next low => rw [Nat.div_eq_of_lt low, Nat.mod_eq_of_lt low, List.getD_cons_zero, BitVec.testBit_toNat]
    · next high =>
      rw [ih, show i / 8 = (i - 8) / 8 + 1 by omega, show i % 8 = (i - 8) % 8 by omega, List.getD_cons_succ]

/-! ### The steps of the decoder -/

/-- R3: what an access that the decoder forwards without a look at the address makes. -/
theorem classify_read {s : State} {x : DeskAccess} (h : x.write = false ∨ x.enables = 0) :
    classify s x = .unit (.forward .plain) := by
  have skips : (!x.write || x.enables == 0) = true := by simpa using h
  unfold classify
  simp only [skips, if_true]

/-- A write that enables some byte. -/
theorem not_skipped {x : DeskAccess} (write : x.write = true) (enabled : x.enables ≠ 0) :
    ¬(!x.write || x.enables == 0) = true := by
  rw [write, Bool.not_true, Bool.false_or, beq_iff_eq]
  exact enabled

/-- R11: a write in the setup window. -/
theorem classify_setup {s : State} {x : DeskAccess} (write : x.write = true) (enabled : x.enables ≠ 0)
    (inside : inSetupWindow s.strap (wordAddr x) = true) :
    classify s x = .unit (.forward (watchSetup x (wordAddr x - setupBase s.strap))) :=
  (if_neg (not_skipped write enabled)).trans (if_pos inside)

/-- R3: a write outside the setup window goes by the window it lies in. -/
theorem classify_outside {s : State} {x : DeskAccess} (write : x.write = true) (enabled : x.enables ≠ 0)
    (outside : ¬(setupBase s.strap ≤ wordAddr x ∧ wordAddr x < setupBase s.strap + 0x10000)) :
    classify s x =
      match windowAt s.cfg.windows (wordAddr x) with
      | none => .unit (.forward .plain)
      | some w =>
        match w.kind with
        | .off => .unit (.forward .plain)
        | .picture => classifyPicture s (wordAddr x)
        | .jobs => .unit (.forward (watchJobs s.cfg.jobSlots x (wordAddr x - w.base)))
        | .slips => .unit (.forward (watchSlips s.composer.filled s.cfg.ringCapacity x (wordAddr x - w.base)))
        | .status => .statusDrop := by
  rw [← inSetupWindow_iff] at outside
  exact (if_neg (not_skipped write enabled)).trans ((if_neg outside).trans rfl)

/-! ### What each window watches -/

theorem fullWord_iff (x : DeskAccess) : fullWord x = true ↔ x.enables = 15 := by
  simp [fullWord]

/-- R8: a posting event is a full write of 1 to the result word of a slot. -/
theorem watchJobs_post {jobSlots off j : Nat} {x : DeskAccess} (slot : off = 128 * j) (inRange : j < jobSlots)
    (full : x.enables = 15) (one : x.data = 1) : watchJobs jobSlots x off = .post j := by
  have at_slot : off / 128 = j := by omega
  have aligned : off % 128 = 0 := by omega
  simp [watchJobs, at_slot, aligned, inRange, (fullWord_iff x).2 full, one]

theorem watchJobs_plain {jobSlots off : Nat} {x : DeskAccess}
    (h : ¬∃ j, off = 128 * j ∧ j < jobSlots ∧ x.enables = 15 ∧ x.data = 1) : watchJobs jobSlots x off = .plain := by
  unfold watchJobs
  rw [if_neg]
  simp only [Bool.and_eq_true, decide_eq_true_eq, fullWord_iff, beq_iff_eq]
  rintro ⟨⟨⟨aligned, inRange⟩, full⟩, one⟩
  exact h ⟨off / 128, by omega, inRange, full, one⟩

/-- R9: a slip slot is taken by a full write of 0 to the mark word of a FILLED slot. -/
theorem watchSlips_mark {filled : List Bool} {capacity off i : Nat} {x : DeskAccess} (slot : off = 64 * i) (inRange : i < capacity)
    (full : x.enables = 15) (zero : x.data = 0) (isFilled : filled.getD i false = true) :
    watchSlips filled capacity x off = .mark i := by
  have at_slot : off / 64 = i := by omega
  have aligned : off % 64 = 0 := by omega
  unfold watchSlips
  rw [at_slot, isFilled, (fullWord_iff x).2 full, zero, if_pos]
  simp [aligned, inRange]

theorem watchSlips_plain {filled : List Bool} {capacity off : Nat} {x : DeskAccess}
    (h : ¬∃ i, off = 64 * i ∧ i < capacity ∧ x.enables = 15 ∧ x.data = 0 ∧ filled.getD i false = true) :
    watchSlips filled capacity x off = .plain := by
  unfold watchSlips
  rw [if_neg]
  simp only [Bool.and_eq_true, decide_eq_true_eq, fullWord_iff, beq_iff_eq]
  rintro ⟨⟨⟨⟨aligned, inRange⟩, full⟩, zero⟩, isFilled⟩
  exact h ⟨off / 64, by omega, inRange, full, zero, isFilled⟩

/-- R11: a load event is a full write of 1 to the load word. -/
theorem watchSetup_load (x : DeskAccess) : watchSetup x 0 = if x.enables = 15 ∧ x.data = 1 then .load else .plain := by
  simp only [watchSetup, if_true, Bool.and_eq_true, fullWord_iff, beq_iff_eq]

/-- R11: the classes a clear event names are the bits written as 1 among the enabled bytes. -/
theorem clearClasses_bit (x : DeskAccess) (c : Fin 9) :
    (clearClasses x)[c] = (x.enables.getLsbD (c.val / 8) && x.data.getLsbD c.val) := by
  have lane : c.val / 8 = 0 ∨ c.val / 8 = 1 := by omega
  have bit : 8 * (c.val / 8) + c.val % 8 = c.val := by omega
  have low : c.val % 8 < 8 := by omega
  have byte : (lanes.map fun i => if laneOn x i then laneByte x.data i else 0).getD (c.val / 8) 0 =
      if laneOn x (c.val / 8) then laneByte x.data (c.val / 8) else 0 := by
    rcases lane with lane | lane <;> rw [lane] <;> rfl
  rw [Fin.getElem_fin, ← BitVec.getLsbD_eq_getElem, clearClasses, BitVec.getLsbD_ofNat, testBit_leNat, byte, laneOn]
  cases x.enables.getLsbD (c.val / 8) with
  | false => simp
  | true => simp [laneByte, low, bit]

/-! ### Pictures -/

/-- R4, R5: a write in a PICTURE window, by the slot it lies in. -/
theorem classifyPicture_slot {s : State} {addr q : Nat} {k : Fin 16} (slot : slotAt s.cfg.slots addr = some (k, q))
    (used : s.pics[k].state ≠ .empty) :
    classifyPicture s addr =
      match dispose s.pics[k] s.cfg.slots[k].size q with
      | .plain => .unit (.forward .plain)
      | .trailerDrop => .trailerDrop
      | .collisionDrop => .collisionDrop k
      | .upkeep n => .unit (.upkeep k n (s.cfg.slots[k].base + n * s.pics[k].stride) s.pics[k].stride s.pics[k].picSamples) := by
  unfold classifyPicture
  simp only [slot, used, if_false]
  rfl

/-- R33: the five cases of the judgement. -/
theorem dispose_cases (r : PictureRecord) (size q : Nat) :
    let n := q / r.stride
    let b := q % r.stride
    let C := size / r.stride
    (C ≤ n → dispose r size q = .plain) ∧
    (n < C → r.stride - 4 ≤ b → dispose r size q = .trailerDrop) ∧
    (n < C → b < r.stride - 4 → r.state = .scanning → r.mark ≤ n → dispose r size q = .collisionDrop) ∧
    (n < C → b < r.stride - 4 → n < r.mark → dispose r size q = .upkeep n) ∧
    (n < C → b < r.stride - 4 → r.mark ≤ n → r.state = .complete ∨ r.state = .cut → dispose r size q = .plain) := by
  intro n b C
  have chain : dispose r size q =
      if C ≤ n then .plain else if r.stride - 4 ≤ b then .trailerDrop
      else if r.state = .scanning ∧ r.mark ≤ n then .collisionDrop else if n < r.mark then .upkeep n else .plain := rfl
  rw [chain]
  refine ⟨fun beyond => if_pos beyond, fun whole trailer => ?_, fun whole data scanning ahead => ?_,
    fun whole data written => ?_, fun whole data ahead ended => ?_⟩
  · rw [if_neg whole.not_ge, if_pos trailer]
  · rw [if_neg whole.not_ge, if_neg data.not_ge, if_pos ⟨scanning, ahead⟩]
  · rw [if_neg whole.not_ge, if_neg data.not_ge, if_neg (fun h => written.not_ge h.2), if_pos written]
  · have notScanning : ¬(r.state = .scanning ∧ r.mark ≤ n) := by
      rintro ⟨scanning, -⟩
      rw [scanning] at ended
      simp at ended
    rw [if_neg whole.not_ge, if_neg data.not_ge, if_neg notScanning, if_neg ahead.not_gt]

/-- Settles O9: the decoder's steps in turn, then the test of each window. -/
theorem deskAccessesAreClassified : Obligations.DeskAccessesAreClassified := by
  refine ⟨fun s x => ⟨fun read => classify_read (.inl read), fun disabled => classify_read (.inr disabled),
    fun write enabled outside none => ?noWindow, fun e write enabled outside window => ?window,
    fun write enabled inside => ?setup⟩, fun r size q _ _ => dispose_cases r size q⟩
  case noWindow => rw [classify_outside write enabled outside, none]
  case window =>
    have byKind := classify_outside write enabled outside
    rw [window] at byKind
    dsimp only at byKind
    refine ⟨fun kind => ?_, fun kind j ⟨slot, inRange, full, one⟩ => ?_, fun kind other => ?_,
      fun kind i ⟨slot, inRange, full, zero, isFilled⟩ => ?_, fun kind other => ?_, fun kind noSlot => ?_,
      fun kind k q slot => ⟨fun empty => ?_, fun used => ?_⟩⟩ <;> rw [byKind, kind] <;> dsimp only
    · rw [watchJobs_post slot inRange full one]
    · rw [watchJobs_plain other]
    · rw [watchSlips_mark slot inRange full zero isFilled]
    · rw [watchSlips_plain other]
    · rw [classifyPicture, noSlot]
    · simp only [classifyPicture, slot, empty, if_true]
    · exact classifyPicture_slot slot used
  case setup =>
    have inWindow := (inSetupWindow_iff s.strap (wordAddr x)).2 (not_not.1 inside)
    refine ⟨fun load full one => ?_, fun load other => ?_, fun clear => ⟨clearClasses x, ?_, clearClasses_bit x⟩,
      fun notLoad notClear => ?_⟩ <;> rw [classify_setup write enabled inWindow]
    · rw [load, watchSetup_load, if_pos ⟨full, one⟩]
    · rw [load, watchSetup_load, if_neg other]
    · rw [clear]
      rfl
    · rw [watchSetup, if_neg notLoad, if_neg notClear]

end Sys2Proof.Machine
end

section
/-! PROOFS. The ends of the desk's forwarded units, and the bytes of a desk access (O11). -/

namespace Sys2Proof.Machine

/-! ### The bytes of a desk access -/

theorem wordAddr_add_lt (x : DeskAccess) {i : Nat} (h : i < 4) : wordAddr x + i < 2 ^ 26 := by
  have := x.addr.isLt
  unfold wordAddr
  omega

/-- An address of the 26-bit bus is its own low 26 bits. -/
theorem addr26_of_lt {a : Nat} (h : a < 2 ^ 26) : addr26 a = a := Nat.mod_eq_of_lt h

/-- The bytes a desk write puts in memory: those of its enabled lanes. -/
theorem mem_deskBytes (x : DeskAccess) (c : Host.Cell) :
    c ∈ deskBytes x ↔ ∃ i, i < 4 ∧ laneOn x i = true ∧ c = (wordAddr x + i, laneByte x.data i) := by
  have lane (i : Nat) : i ∈ lanes ↔ i < 4 := by
    simp only [lanes, List.mem_cons, List.not_mem_nil, or_false]
    omega
  simp only [deskBytes, List.mem_filterMap, lane]
  refine exists_congr fun i => and_congr_right fun _ => ?_
  split
  · next on => simp [on, eq_comm]
  · next off => simp [off]

/-- A desk write writes each address once. -/
theorem deskBytes_distinct (x : DeskAccess) : (deskBytes x).Pairwise fun c d => c.1 ≠ d.1 := by
  refine List.Pairwise.filterMap _ (R := fun i j => i ≠ j) (fun i j ne c hc d hd => ?_) (by decide : lanes.Pairwise _)
  have address {i : Nat} {c : Host.Cell} (h : (if laneOn x i then some (wordAddr x + i, laneByte x.data i) else none) = some c) :
      c.1 = wordAddr x + i := by
    split at h
    · exact (Option.some.inj h) ▸ rfl
    · simp at h
  rw [address hc, address hd]
  omega

/-- R3, log 5: memory after a desk write: its enabled bytes in its aligned word, and every other byte as it was. -/
theorem readByte_deskWrite (m : Memory) (x : DeskAccess) (hm : Memory.wf m = true) (y : Nat) :
    readByte (applyAccess m (deskBytes x)) y =
      if y / 4 * 4 = wordAddr x ∧ laneOn x (y % 4) = true then laneByte x.data (y % 4) else readByte m y := by
  have aligned : wordAddr x % 4 = 0 := by
    unfold wordAddr
    omega
  split
  · next inWord =>
    obtain ⟨word, on⟩ := inWord
    have place : y = wordAddr x + y % 4 := by omega
    refine readByte_applyAccess_mem m _ _ _ hm ((mem_deskBytes x _).2 ⟨y % 4, by omega, on, ?_⟩) (deskBytes_distinct x)
    rw [← place]
  · next outside =>
    refine readByte_applyAccess_other m _ y fun c written same => outside ?_
    obtain ⟨i, lane, on, rfl⟩ := (mem_deskBytes x c).1 written
    have lane_eq : y % 4 = i := by omega
    exact ⟨by omega, lane_eq ▸ on⟩

@[simp] theorem length_readBytes (m : Memory) (a n : Nat) : (readBytes m a n).length = n := by
  induction n generalizing a with
  | zero => rfl
  | succ n ih => rw [readBytes, List.length_cons, ih]

/-- The bytes read at successive addresses, one by one. -/
theorem getD_readBytes (m : Memory) (a : Nat) {n i : Nat} (h : i < n) : (readBytes m a n).getD i 0 = readByte m (addr26 (a + i)) := by
  induction n generalizing a i with
  | zero => omega
  | succ n ih =>
    cases i with
    | zero => rfl
    | succ i => rw [readBytes, List.getD_cons_succ, ih _ (by omega), Nat.add_assoc, Nat.add_comm 1 i]

/-- The bytes of the aligned word of a desk access. -/
theorem getD_readWord (m : Memory) (x : DeskAccess) {i : Nat} (h : i < 4) :
    (readBytes m (wordAddr x) 4).getD i 0 = readByte m (wordAddr x + i) := by
  rw [getD_readBytes m _ h, addr26_of_lt (wordAddr_add_lt x h)]

/-- Log 5: the byte of the lowest address stands in lane 0. -/
theorem wordOf_lane (bs : List Byte) {i : Nat} (h : i < 4) : (wordOf bs).extractLsb' (8 * i) 8 = bs.getD i 0 := by
  ext j hj
  have byte : (8 * i + j) / 8 = i := by omega
  have bit : (8 * i + j) % 8 = j := by omega
  have inWord : 8 * i + j < 32 := by omega
  rw [← BitVec.getLsbD_eq_getElem, ← BitVec.getLsbD_eq_getElem, BitVec.getLsbD_extractLsb', wordOf, BitVec.getLsbD_ofNat,
    testBit_leNat, byte, bit]
  simp [hj, inWord]

/-! ### The ends of the forwarded units -/

/-- The end of a forwarded unit of the direction and event the command is for. -/
theorem endForward_eq {s : State} {x : DeskAccess} {e : WatchEvent} {read : Bool} {want : WatchEvent → Bool}
    (f : WatchEvent → State → State) (unit : s.unit = some (.desk x (.forward e))) (direction : x.write ≠ read)
    (wanted : want e = true) :
    endForward read want f s = f e { endUnit (.desk x (.forward e)) s with
      desk := { access := none, data := if read then wordOf (readBytes s.mem (wordAddr x) 4) else s.desk.data } } := by
  have taken : ¬(x.write = read ∨ want e = false) := by
    simp [direction, wanted]
  unfold endForward
  simp only [unit, taken, if_false]

/-- The part when a forwarded write has ended, before its watched effect. -/
def writeEnded (x : DeskAccess) (a : State) : State :=
  { a with mem := applyAccess a.mem (deskBytes x), unit := none, desk := { a.desk with access := none } }

theorem endForward_write {s : State} {x : DeskAccess} {e : WatchEvent} {want : WatchEvent → Bool} (f : WatchEvent → State → State)
    (unit : s.unit = some (.desk x (.forward e))) (write : x.write = true) (wanted : want e = true) :
    endForward false want f s = f e (writeEnded x s) := by
  have mem : unitAccesses s (.desk x (.forward e)) = [deskBytes x] := by
    rw [unitAccesses, write, if_pos rfl]
  rw [endForward_eq f unit (by simp [write]) wanted, endUnit, mem]
  rfl

theorem endForward_read {s : State} {x : DeskAccess} {e : WatchEvent} {want : WatchEvent → Bool} (f : WatchEvent → State → State)
    (unit : s.unit = some (.desk x (.forward e))) (read : x.write = false) (wanted : want e = true) :
    endForward true want f s =
      f e { s with unit := none, desk := { access := none, data := wordOf (readBytes s.mem (wordAddr x) 4) } } := by
  have mem : unitAccesses s (.desk x (.forward e)) = [[]] := by
    rw [unitAccesses, read, if_neg Bool.false_ne_true]
  rw [endForward_eq f unit (by simp [read]) wanted, endUnit, mem]
  rfl

/-- A forwarded write's end as a command: `exec` of it is `act` of its `endForward`. -/
theorem act_endForward_write {t : Nat} {s : State} {x : DeskAccess} {e : WatchEvent} (want : WatchEvent → Bool)
    (f : WatchEvent → State → State) (running : s.inReset = false) (unit : s.unit = some (.desk x (.forward e)))
    (write : x.write = true) (wanted : want e = true) :
    act t (endForward false want f) s = .next (noteChanges (advance t s) (f e (writeEnded x (advance t s)))) := by
  rw [act_running t _ s running, endForward_write (s := advance t s) f unit write wanted]

theorem postSlot_eq (j : Nat) (s : State) : postSlot j s = { s with
    intake := { s.intake with queue := if j ∈ s.intake.queue then s.intake.queue else s.intake.queue ++ [j] } } := by
  unfold postSlot
  by_cases posted : j ∈ s.intake.queue <;> simp [posted]

theorem startLoad_eq (s : State) :
    startLoad s = { s with loader := if s.loader.phase = .idle then { phase := .reading 1 } else s.loader } := by
  unfold startLoad
  split <;> rfl

/-- Settles O11: each end is `endForward` with its watched effect; the bytes are those of the enabled lanes. -/
theorem forwardedUnitsEnd : Obligations.ForwardedUnitsEnd := by
  refine ⟨fun t s x e running unit => ⟨fun read => ?read, fun write => ⟨fun plain => ?plain, fun j post => ?post, fun i mark => ?mark,
    fun load => ?load, fun cs clear => ?clear⟩⟩, fun m x hm => ⟨readByte_deskWrite m x hm, fun i => ?lane⟩⟩
  case read =>
    have run := act_running t (endForward true (fun _ => true) fun _ s => s) s running
    rw [endForward_read (s := advance t s) _ unit read rfl] at run
    exact run
  case plain => exact act_endForward_write _ _ running unit write (decide_eq_true plain)
  case post =>
    subst post
    have run := act_endForward_write (t := t) (fun e => match e with | .post _ => true | _ => false)
      (fun e s => match e with | .post j => postSlot j s | _ => s) running unit write rfl
    dsimp only at run
    rw [postSlot_eq] at run
    exact run
  case mark =>
    subst mark
    exact act_endForward_write (t := t) (fun e => match e with | .mark _ => true | _ => false)
      (fun e s => match e with | .mark i => takeSlot i s | _ => s) running unit write rfl
  case load =>
    have run := act_endForward_write (t := t) (fun e => e = .load) (fun _ s => startLoad s) running unit write (decide_eq_true load)
    rw [startLoad_eq] at run
    exact run
  case clear =>
    subst clear
    exact act_endForward_write (t := t) (fun e => match e with | .clear _ => true | _ => false)
      (fun e s => match e with | .clear c => clearNotices c s | _ => s) running unit write rfl
  case lane =>
    rw [wordOf_lane _ i.isLt, getD_readWord m x i.isLt]
    rfl

end Sys2Proof.Machine
end

section
/-! PROOFS. The bytes each writing unit leaves in memory, the check upkeep unit among them (O14). -/

namespace Sys2Proof.Machine

/-! ### Runs of accesses as one -/

/-- A run of accesses that write the bytes at successive addresses in some order leaves them there. -/
theorem storedAt_accesses {m : Memory} {xs : List Access} {a : Nat} {bs : List Byte} (hm : Memory.wf m = true)
    (hl : bs.length ≤ 2 ^ 26) (written : ∀ c, c ∈ xs.flatten ↔ c ∈ accessOf a bs) : StoredAt m (applyAccesses m xs) a bs := by
  rw [applyAccesses_flatten]
  exact storedAt_of m _ a bs hm hl written

/-! ### The line as a scan line write leaves it -/

theorem lineCheck_eq (density : List Byte) : lineCheck density = (density.map (·.toNat)).sum % 65536 := by
  rw [lineCheck, List.sum_eq_foldl, List.foldl_map]

theorem scanFlags_eq (heldRef : Bool) : (flagScanned ||| if heldRef then flagHeldRef else 0) = if heldRef then 3 else 1 := by
  cases heldRef <;> rfl

/-- R21: density bytes, zero pad bytes up to a whole word, trailer. -/
theorem scanLine_bytes (e : LineEntry) :
    padTo (4 * ceilDiv e.bytes.length 4) e.bytes ++
        trailerBytes (lineCheck e.bytes) (BitVec.ofNat 8 e.line) (flagScanned ||| if e.heldRef then flagHeldRef else 0) =
      e.bytes ++ List.replicate ((e.bytes.length + 3) / 4 * 4 - e.bytes.length) 0 ++
        leBytes 2 ((e.bytes.map (·.toNat)).sum % 65536) ++ [BitVec.ofNat 8 e.line, if e.heldRef then 3 else 1] := by
  have words : 4 * ceilDiv e.bytes.length 4 = (e.bytes.length + 3) / 4 * 4 := by
    unfold ceilDiv
    omega
  rw [padTo, words, trailerBytes, lineCheck_eq, scanFlags_eq, ← List.append_assoc]

/-! ### One word -/

/-- Memory after a write of one whole word that stands below the top of the bus. -/
theorem readByte_wordWrite (m : Memory) (T : Nat) (b0 b1 b2 b3 : Byte) (hm : Memory.wf m = true) (fits : T + 4 ≤ 2 ^ 26) (y : Nat) :
    readByte (applyAccess m (accessOf T [b0, b1, b2, b3])) y =
      if y = T then b0 else if y = T + 1 then b1 else if y = T + 2 then b2 else if y = T + 3 then b3 else readByte m y := by
  obtain ⟨inside, outside⟩ := storedAt_accessOf m T [b0, b1, b2, b3] hm (by simp)
  have at_place (i : Nat) (h : i < 4) : readByte (applyAccess m (accessOf T [b0, b1, b2, b3])) (T + i) = [b0, b1, b2, b3][i] := by
    have := inside i h
    rwa [addr26_of_lt (by omega)] at this
  split_ifs with h0 h1 h2 h3
  · exact h0 ▸ at_place 0 (by omega)
  · exact h1 ▸ at_place 1 (by omega)
  · exact h2 ▸ at_place 2 (by omega)
  · exact h3 ▸ at_place 3 (by omega)
  · refine outside y fun i (h : i < 4) => ?_
    rw [addr26_of_lt (by omega)]
    omega

/-- The bytes of one whole word that stands below the top of the bus. -/
theorem readWord_eq (m : Memory) {T : Nat} (fits : T + 4 ≤ 2 ^ 26) :
    readBytes m T 4 = [readByte m T, readByte m (T + 1), readByte m (T + 2), readByte m (T + 3)] := by
  simp only [readBytes]
  rw [addr26_of_lt, addr26_of_lt, addr26_of_lt, addr26_of_lt] <;> omega

/-- R22: a trailer flag unit sets SUSPECT and changes nothing else. -/
theorem readByte_trailerFlag (m : Memory) (T : Nat) (hm : Memory.wf m = true) (fits : T + 4 ≤ 2 ^ 26) (y : Nat) :
    readByte (applyAccesses m (trailerFlagAccesses m T)) y = if y = T + 3 then readByte m (T + 3) ||| 8 else readByte m y := by
  have written : applyAccesses m (trailerFlagAccesses m T) =
      applyAccess m (accessOf T [readByte m T, readByte m (T + 1), readByte m (T + 2), readByte m (T + 3) ||| 8]) := by
    rw [trailerFlagAccesses, readWord_eq m fits]
    rfl
  rw [written, readByte_wordWrite m T _ _ _ _ hm fits]
  by_cases last : y = T + 3
  · simp [last]
  · simp only [last, if_false]
    split_ifs with h0 h1 h2
    · rw [h0]
    · rw [h1]
    · rw [h2]
    · rfl

/-- Settles O14: each unit's accesses, run together, write its bytes at successive addresses. -/
theorem unitsStoreTheirBytes : Obligations.UnitsStoreTheirBytes := by
  intro m addr bytes hm len
  have short : bytes.length ≤ 2 ^ 26 := len.trans (by norm_num)
  refine ⟨storedAt_accessOf m addr bytes hm short, fun slip => ?slip, fun count => ?status, fun e line => ?scanLine,
    fun T fits y => readByte_trailerFlag m T hm fits y⟩
  case slip => exact storedAt_accesses hm short (mem_slipAccesses addr bytes slip)
  case status =>
    refine storedAt_accesses hm ?_ fun c => ?_
    · simp
      omega
    · rw [flatten_statusAccesses]
  case scanLine =>
    subst line
    refine storedAt_accesses hm ?_ fun c => ?_
    · simp
      omega
    · rw [flatten_scanLineAccesses, scanLine_bytes]

/-! ### The memory after a check upkeep unit -/

/-- R6: the four accesses of a check upkeep unit are a desk write and a write of the trailer word. -/
theorem applyAccesses_upkeep (m : Memory) (x : DeskAccess) {la stride : Nat} (p : Nat) (fits : la + stride - 4 + 4 ≤ 2 ^ 26) :
    let T := la + stride - 4
    let check := upkeepCheck x la p (readBytes m (wordAddr x) 4) ((readByte m T).toNat + 256 * (readByte m (T + 1)).toNat)
    applyAccesses m (upkeepAccesses m x la stride p) =
      applyAccess (applyAccess m (deskBytes x)) (accessOf T
        [BitVec.ofNat 8 check, BitVec.ofNat 8 (check / 256), readByte m (T + 2), readByte m (T + 3) ||| flagAltered]) := by
  intro T check
  have field : fieldAt (readBytes m T 4) 0 2 = (readByte m T).toNat + 256 * (readByte m (T + 1)).toNat := by
    rw [readWord_eq m fits]
    rfl
  rw [upkeepAccesses, field, readWord_eq m fits]
  rfl

/-- A sum over the lanes with a property, lane by lane. -/
theorem sum_filter_lanes (P : Nat → Bool) (f : Nat → Nat) :
    ((lanes.filter P).map f).sum = ∑ i : Fin 4, if P i.val then f i.val else 0 := by
  have by_lane (l : List Nat) : ((l.filter P).map f).sum = (l.map fun i => if P i then f i else 0).sum := by
    induction l with
    | nil => rfl
    | cons a l ih => cases h : P a <;> simp [h, ih]
  rw [by_lane, Fin.sum_univ_four]
  simp [lanes, Nat.add_assoc]

/-- R6: the new check of a check upkeep unit: the old one less the old bytes of the line's data, and the new ones added. -/
theorem upkeepCheck_eq (m : Memory) (x : DeskAccess) (la p old : Nat) :
    let inLine (i : Fin 4) : Prop := x.enables.getLsbD i = true ∧ wordAddr x + i - la < p
    (upkeepCheck x la p (readBytes m (wordAddr x) 4) old : Int) =
      ((old : Int) - (∑ i : Fin 4, if inLine i then (readByte m (wordAddr x + i)).toNat else 0 : Nat) +
        (∑ i : Fin 4, if inLine i then (x.data.extractLsb' (8 * i) 8).toNat else 0 : Nat)) % 65536 := by
  intro inLine
  have lane (i : Fin 4) : densityLane x la p i.val = true ↔ inLine i := by
    simp [densityLane, laneOn, inLine]
  have gone : ((lanes.filter (densityLane x la p)).map fun i => ((readBytes m (wordAddr x) 4).getD i 0).toNat).sum =
      ∑ i : Fin 4, if inLine i then (readByte m (wordAddr x + i)).toNat else 0 := by
    rw [sum_filter_lanes]
    simp only [lane, getD_readWord m x (Fin.isLt _)]
  have come : ((lanes.filter (densityLane x la p)).map fun i => (laneByte x.data i).toNat).sum =
      ∑ i : Fin 4, if inLine i then (x.data.extractLsb' (8 * i) 8).toNat else 0 := by
    rw [sum_filter_lanes]
    simp only [lane, laneByte]
  unfold upkeepCheck
  dsimp only
  rw [gone, come]
  exact Int.toNat_of_nonneg (Int.emod_nonneg _ (by norm_num))

/-- R6, R7: the memory after a check upkeep unit, byte by byte. -/
theorem readByte_upkeep (m : Memory) (x : DeskAccess) {la stride : Nat} (p : Nat) (hm : Memory.wf m = true) (y : Nat)
    (line : la % 4 = 0) (whole : stride % 4 = 0) (fits : la + stride ≤ 2 ^ 26)
    (last : wordAddr x + 4 ≤ la + stride - 4) :
    let T := la + stride - 4
    let check := upkeepCheck x la p (readBytes m (wordAddr x) 4) ((readByte m T).toNat + 256 * (readByte m (T + 1)).toNat)
    readByte (applyAccesses m (upkeepAccesses m x la stride p)) y =
      if y / 4 * 4 = wordAddr x ∧ x.enables.getLsbD (y % 4) = true then x.data.extractLsb' (8 * (y % 4)) 8
      else if y = T then BitVec.ofNat 8 check
      else if y = T + 1 then BitVec.ofNat 8 (check / 256)
      else if y = T + 3 then readByte m (T + 3) ||| 4
      else readByte m y := by
  intro T check
  have aligned : T % 4 = 0 := by omega
  have atTrailer (i : Nat) (low : i < 4) (h : y = T + i) : ¬(y / 4 * 4 = wordAddr x ∧ x.enables.getLsbD (y % 4) = true) := by
    omega
  rw [applyAccesses_upkeep m x p (by omega), readByte_wordWrite _ _ _ _ _ _ (wf_applyAccess _ _ hm) (by omega),
    readByte_deskWrite m x hm]
  by_cases h0 : y = T
  · rw [if_pos h0, if_neg (atTrailer 0 (by omega) h0), if_pos h0]
  by_cases h1 : y = T + 1
  · rw [if_neg h0, if_pos h1, if_neg (atTrailer 1 (by omega) h1), if_neg h0, if_pos h1]
  by_cases h2 : y = T + 2
  · rw [if_neg h0, if_neg h1, if_pos h2, if_neg (atTrailer 2 (by omega) h2), if_neg h0, if_neg h1, if_neg (by omega), h2]
  by_cases h3 : y = T + 3
  · rw [if_neg h0, if_neg h1, if_neg h2, if_pos h3, if_neg (atTrailer 3 (by omega) h3), if_neg h0, if_neg h1, if_pos h3]
    rfl
  · rw [if_neg h0, if_neg h1, if_neg h2, if_neg h3, if_neg h0, if_neg h1, if_neg h3]
    rfl

end Sys2Proof.Machine
end

section
/-! PROOFS. The end of a check upkeep unit: the memory it leaves, and whom it tells (O12, O13). -/

namespace Sys2Proof.Machine

/-! ### Everything the end of a check upkeep unit changes -/

/-- An operation on each port in turn is the operation on all of them at once. -/
theorem forPorts_modPort {f : PortNo → State → State} {g : PortNo → Port → Port} {s : State}
    (h : ∀ p x, x.cfg = s.cfg → f p x = modPort p (g p) x) :
    forPorts f s = { s with ports := Vector.ofFn fun p => g p s.ports[p] } := by
  have each : forPorts f s = forPorts (fun p => modPort p (g p)) s := by
    simp only [forPorts, allPorts, List.foldl_cons, List.foldl_nil]
    rw [h 0 s rfl, h 1 (modPort 0 (g 0) s) rfl, h 2 (modPort 1 (g 1) (modPort 0 (g 0) s)) rfl,
      h 3 (modPort 2 (g 2) (modPort 1 (g 1) (modPort 0 (g 0) s))) rfl]
  have ports : (forPorts (fun p => modPort p (g p)) s).ports = Vector.ofFn fun p => g p s.ports[p] := by
    ext i hi
    simp only [forPorts, allPorts, List.foldl_cons, List.foldl_nil, modPort_ports, Vector.getElem_ofFn]
    interval_cases i <;> simp
  rw [each, ← ports]
  rfl

/-- R7, R118, R151: what a port makes of a desk write `x` to line `n` of picture `k`, which stands at `la`: `len` is its band length,
and `composed` how much of its frame in transfer was composed (log 10). -/
def retouched (k : Fin 16) (n composed : Nat) (x : DeskAccess) (la p len : Nat) (v : Port) : Port :=
  { v with
    session := if conducts k v then alterSession n len v.session else v.session
    contexts := v.contexts.map fun c => if c.job.pic = k then alterContext n len c else c
    link := { v.link with
      transfer := v.link.transfer.map fun y => { y with frame := patchFrame k n composed x la p y.frame } } }

/-- R118: every port's frame in transfer is told. -/
theorem forPorts_patchTransfer (k : Fin 16) (n : Nat) (composed : List Nat) (x : DeskAccess) (la p : Nat) (s : State) :
    forPorts (patchTransfer k n composed x la p) s = { s with ports := Vector.ofFn fun q =>
      { s.ports[q] with link := { s.ports[q].link with
          transfer := s.ports[q].link.transfer.map fun y =>
            { y with frame := patchFrame k n (composed.getD q.val 0) x la p y.frame } } } } :=
  forPorts_modPort (g := fun q v => { v with link := { v.link with
    transfer := v.link.transfer.map fun y => { y with frame := patchFrame k n (composed.getD q.val 0) x la p y.frame } } })
    fun _ _ _ => rfl

/-- R151: every port's session and saved contexts are told. -/
theorem forPorts_tellAltered (k : Fin 16) (n : Nat) (s : State) :
    forPorts (tellAltered k n) s = { s with ports := Vector.ofFn fun q =>
      { s.ports[q] with
        session := if conducts k s.ports[q] then alterSession n s.cfg.ports[q].bandLength s.ports[q].session else s.ports[q].session
        contexts := s.ports[q].contexts.map fun c =>
          if c.job.pic = k then alterContext n s.cfg.ports[q].bandLength c else c } } :=
  forPorts_modPort (g := fun q v => { v with
    session := if conducts k v then alterSession n s.cfg.ports[q].bandLength v.session else v.session
    contexts := v.contexts.map fun c => if c.job.pic = k then alterContext n s.cfg.ports[q].bandLength c else c })
    fun q y cfg => by rw [tellAltered, bandLen, settings, cfg]

/-- R7, R48, R118, R151: everything the end of a check upkeep unit changes. -/
theorem endUpkeep_eq {s : State} {x : DeskAccess} {k : Fin 16} {n la stride p : Nat} (composed : List Nat)
    (unit : s.unit = some (.desk x (.upkeep k n la stride p))) :
    endUpkeep composed s = { s with
      mem := applyAccesses s.mem (upkeepAccesses s.mem x la stride p), unit := none, desk := { s.desk with access := none }
      ports := Vector.ofFn fun q =>
        retouched k n (composed.getD q.val 0) x la p s.cfg.ports[q].bandLength s.ports[q]
      store := hitStaged x k n la p s.store
      pics := s.pics.set k { s.pics[k] with alteredWrites := bump max16 s.pics[k].alteredWrites } } := by
  unfold endUpkeep
  simp only [unit]
  rw [forPorts_patchTransfer, forPorts_tellAltered]
  simp only [modStore_ports, modPic_ports, Vector.getElem_ofFn, Fin.getElem_fin]
  rfl

/-- The end of a check upkeep unit as a command. -/
theorem exec_checkUpkeepUnitEnd (t : Nat) (composed : List Nat) (s : State) (running : s.inReset = false) :
    exec (.checkUpkeepUnitEnd t composed) s =
      .next (noteChanges (advance t s) (endUpkeep composed (advance t s))) := act_running t (endUpkeep composed) s running

/-- A byte of a number given as an integer. -/
theorem byte_ofInt {n : Nat} {z : Int} (h : (n : Int) = z) : BitVec.ofInt 8 z = BitVec.ofNat 8 n := by
  rw [← h, BitVec.ofInt_natCast]

/-- Settles O12: the unit's accesses are a desk write and a write of the trailer word, with the check that `upkeepCheck` gives. -/
theorem upkeepUnitWritesDataAndTrailer : Obligations.UpkeepUnitWritesDataAndTrailer := by
  intro t composed s x k n la stride p running hm unit line whole fits first last T old inLine gone come check
  refine ⟨_, exec_checkUpkeepUnitEnd t composed s running, ?_⟩
  rw [endUpkeep_eq (s := advance t s) composed unit]
  refine ⟨noteChanges_unit _ _, noteChanges_desk _ _, fun y => ?_⟩
  rw [noteChanges_mem]
  have value : (upkeepCheck x la p (readBytes s.mem (wordAddr x) 4) ((old T).toNat + 256 * (old (T + 1)).toNat) : Int) = check :=
    upkeepCheck_eq s.mem x la p _
  have low := byte_ofInt value
  have high : BitVec.ofInt 8 (check / 256) = BitVec.ofNat 8
      (upkeepCheck x la p (readBytes s.mem (wordAddr x) 4) ((old T).toNat + 256 * (old (T + 1)).toNat) / 256) :=
    byte_ofInt (by rw [← value]; rfl)
  rw [low, high]
  exact readByte_upkeep s.mem x p hm y line whole fits last

/-! ### The bytes of a line that a desk write rewrites -/

/-- A desk write puts a byte at position `i` of the line at `la`, a density byte at or above `least`. -/
def rewrites (least : Nat) (x : DeskAccess) (la p i : Nat) : Bool :=
  decide (least ≤ i ∧ i < p ∧ (la + i) / 4 * 4 = wordAddr x ∧ x.enables.getLsbD ((la + i) % 4) = true)

/-- What lane `j` of a desk write does to the bytes of a line. -/
def patchLane (least : Nat) (x : DeskAccess) (la p : Nat) (bs : List Byte) (j : Nat) : List Byte :=
  if densityLane x la p j && decide (least ≤ wordAddr x + j - la) then bs.set (wordAddr x + j - la) (laneByte x.data j) else bs

/-- A lane rewrites the position it stands at, if the write enables it and the position is one of those to rewrite. -/
theorem patchLane_test {least : Nat} {x : DeskAccess} {la p j : Nat} (lane : j < 4) (first : la ≤ wordAddr x) (i : Nat) :
    (densityLane x la p j && decide (least ≤ wordAddr x + j - la)) = true ∧ wordAddr x + j - la = i ↔
      rewrites least x la p i = true ∧ (la + i) % 4 = j := by
  have aligned : wordAddr x % 4 = 0 := by
    unfold wordAddr
    omega
  simp only [densityLane, laneOn, rewrites, Bool.and_eq_true, decide_eq_true_eq]
  constructor
  · rintro ⟨⟨⟨on, inLine⟩, above⟩, place⟩
    have lane_eq : (la + i) % 4 = j := by omega
    exact ⟨⟨by omega, by omega, by omega, lane_eq ▸ on⟩, lane_eq⟩
  · rintro ⟨⟨above, inLine, word, on⟩, lane_eq⟩
    have place : wordAddr x + j - la = i := by omega
    exact ⟨⟨⟨lane_eq ▸ on, by omega⟩, by omega⟩, place⟩

theorem getElem?_patchLane {least : Nat} {x : DeskAccess} {la p j : Nat} (lane : j < 4) (first : la ≤ wordAddr x)
    (bs : List Byte) (i : Nat) :
    (patchLane least x la p bs j)[i]? =
      bs[i]?.map fun b => if rewrites least x la p i = true ∧ (la + i) % 4 = j then laneByte x.data j else b := by
  simp only [← patchLane_test lane first]
  unfold patchLane
  by_cases enabled : (densityLane x la p j && decide (least ≤ wordAddr x + j - la)) = true
  · rw [if_pos enabled, List.getElem?_set]
    by_cases here : wordAddr x + j - la = i
    · subst here
      by_cases inside : wordAddr x + j - la < bs.length <;> simp [enabled, inside]
    · simp [here]
  · simp [enabled]

theorem getElem?_patchLanes {least : Nat} {x : DeskAccess} {la p : Nat} (first : la ≤ wordAddr x) (l : List Nat)
    (lanes4 : ∀ j ∈ l, j < 4) (bs : List Byte) (i : Nat) :
    (l.foldl (patchLane least x la p) bs)[i]? =
      bs[i]?.map fun b => if rewrites least x la p i = true ∧ (la + i) % 4 ∈ l then laneByte x.data ((la + i) % 4) else b := by
  induction l generalizing bs with
  | nil => simp
  | cons j l ih =>
    rw [List.foldl_cons, ih (fun a h => lanes4 a (List.mem_cons_of_mem _ h)), getElem?_patchLane (lanes4 j (by simp)) first,
      Option.map_map]
    congr 1
    funext b
    simp only [Function.comp, List.mem_cons]
    by_cases hit : rewrites least x la p i = true
    · by_cases later : (la + i) % 4 ∈ l
      · simp [hit, later]
      · by_cases here : (la + i) % 4 = j <;> simp [hit, later, here]
    · simp [hit]

/-- R48, R118: the bytes of a line after a desk write, position by position. -/
theorem patchBytes_eq (least : Nat) {x : DeskAccess} {la : Nat} (p : Nat) (bytes : List Byte) (first : la ≤ wordAddr x) :
    patchBytes least x la p bytes = bytes.mapIdx fun i b =>
      if least ≤ i ∧ i < p ∧ (la + i) / 4 * 4 = wordAddr x ∧ x.enables.getLsbD ((la + i) % 4) = true
      then x.data.extractLsb' (8 * ((la + i) % 4)) 8 else b := by
  have lane (i : Nat) : (la + i) % 4 ∈ lanes := by
    simp only [lanes, List.mem_cons, List.not_mem_nil, or_false]
    omega
  refine List.ext_getElem? fun i => ?_
  have fold := getElem?_patchLanes (least := least) (p := p) first lanes (by decide) bytes i
  simp only [lane, and_true, rewrites, decide_eq_true_eq, laneByte] at fold
  rw [List.getElem?_mapIdx]
  exact fold

/-! ### The staged copy -/

/-- The way found has the state and the tag asked for. -/
theorem findWay_tagged {st : WayState} {pic : Fin 16} {line : Nat} {c : LineSet} {w : Bool} (h : findWay st pic line c = some w) :
    (wayOf c w).state = st ∧ (wayOf c w).pic = pic ∧ (wayOf c w).line = line := by
  have tag : tagged st pic line (wayOf c w) = true := by
    unfold findWay at h
    split_ifs at h with way0 way1
    · cases h
      exact way0
    · cases h
      exact way1
  simpa [tagged, and_assoc] using tag

theorem wayOf_putWay (c : LineSet) (w v : Bool) (y : Way) : wayOf (putWay c w y) v = if v = w then y else wayOf c v := by
  cases w <;> cases v <;> rfl

/-- A search by state and tag does not look at the bytes. -/
theorem findWay_putWay_bytes (st : WayState) (pic : Fin 16) (line : Nat) (c : LineSet) (w : Bool) (bs : List Byte) :
    findWay st pic line (putWay c w { wayOf c w with bytes := bs }) = findWay st pic line c := by
  cases w <;> rfl

/-- The bytes of the way VALID with a tag, in one set. -/
def setBytes (pic : Fin 16) (line : Nat) (c : LineSet) : Option (List Byte) :=
  (findWay .valid pic line c).map fun w => (wayOf c w).bytes

/-- The set of line (k, n) when `f` rewrites the bytes of the way VALID with that tag. -/
def rewriteWay (k : Fin 16) (n : Nat) (f : List Byte → List Byte) (c : LineSet) : LineSet :=
  match findWay .valid k n c with
  | some w => putWay c w { wayOf c w with bytes := f (wayOf c w).bytes }
  | none => c

theorem setBytes_rewriteWay (k pic : Fin 16) (n line : Nat) (f : List Byte → List Byte) (c : LineSet) :
    setBytes pic line (rewriteWay k n f c) = (setBytes pic line c).map fun bs => if pic = k ∧ line = n then f bs else bs := by
  unfold setBytes rewriteWay
  cases hit : findWay .valid k n c with
  | none =>
    cases found : findWay .valid pic line c with
    | none => rfl
    | some v =>
      have other : ¬(pic = k ∧ line = n) := by
        rintro ⟨rfl, rfl⟩
        simp [hit] at found
      simp [other]
  | some w =>
    dsimp only
    rw [findWay_putWay_bytes]
    cases found : findWay .valid pic line c with
    | none => rfl
    | some v =>
      obtain ⟨-, picW, lineW⟩ := findWay_tagged hit
      obtain ⟨-, picV, lineV⟩ := findWay_tagged found
      have same : v = w ↔ pic = k ∧ line = n := by
        constructor
        · rintro rfl
          exact ⟨picV.symm.trans picW, lineV.symm.trans lineW⟩
        · rintro ⟨rfl, rfl⟩
          exact Option.some.inj (found.symm.trans hit)
      simp only [Option.map_some, wayOf_putWay, same]
      by_cases tag : pic = k ∧ line = n
      · rw [if_pos tag, if_pos tag, same.2 tag]
      · rw [if_neg tag, if_neg tag]

/-- R48: the staged copy of line (k, n), and no other, is rewritten. -/
theorem stagedBytes_hitStaged (x : DeskAccess) (k : Fin 16) (n la p : Nat) (s : LineStore) (pic : Fin 16) (line : Nat) :
    stagedBytes (hitStaged x k n la p s) pic line =
      (stagedBytes s pic line).map fun bs => if pic = k ∧ line = n then patchBytes 0 x la p bs else bs := by
  have set_eq : (hitStaged x k n la p s).sets[setIndex pic line] =
      if setIndex k n = setIndex pic line then rewriteWay k n (patchBytes 0 x la p) s.sets[setIndex pic line]
      else s.sets[setIndex pic line] := by
    show (s.sets.set (setIndex k n) (rewriteWay k n (patchBytes 0 x la p) s.sets[setIndex k n]))[(setIndex pic line).val] = _
    rw [Vector.getElem_set]
    by_cases index : setIndex k n = setIndex pic line
    · simp [index]
    · rw [if_neg index, if_neg (fun same => index (Fin.ext same))]
      rfl
  show setBytes pic line (hitStaged x k n la p s).sets[setIndex pic line] = (setBytes pic line s.sets[setIndex pic line]).map _
  rw [set_eq]
  by_cases index : setIndex k n = setIndex pic line
  · rw [if_pos index, setBytes_rewriteWay]
  · have other : ¬(pic = k ∧ line = n) := by
      rintro ⟨rfl, rfl⟩
      exact index rfl
    simp [index, other]

/-! ### The ports -/

/-- R151: which sessions a desk write to line `n` of picture `k` touches, and how. -/
theorem altered_session (k : Fin 16) (n len : Nat) (v : Port) :
    (if conducts k v then alterSession n len v.session else v.session) =
      if v.session.job.map (·.pic) ≠ some k ∨ v.session.state = .idle ∨ v.session.state = .slipWait then v.session
      else if n < v.session.band * len then
        { v.session with counts := { v.session.counts with alterations := min 65535 (v.session.counts.alterations + 1) } }
      else if n < v.session.band * len + len ∧ ∃ h, v.session.lastHanded = some h ∧ n ≤ h then { v.session with stale := true }
      else v.session := by
  have conducting : conducts k v = true ↔
      ¬(v.session.job.map (·.pic) ≠ some k ∨ v.session.state = .idle ∨ v.session.state = .slipWait) := by
    unfold conducts
    cases v.session.job <;> simp [noBand]
  by_cases told : conducts k v = true
  · rw [if_pos told, if_neg (conducting.1 told), alterSession]
    dsimp only
    split_ifs with before inBand handed handed
    · rfl
    · obtain ⟨last, isLast, le⟩ := handed.2
      simp [isLast, le]
    · cases last : v.session.lastHanded with
      | none => rfl
      | some h =>
        have beyond : ¬n ≤ h := fun le => handed ⟨inBand, h, last, le⟩
        simp [beyond]
    · exact absurd handed.1 inBand
    · rfl
  · rw [if_neg told, if_pos (not_not.1 fun h => told (conducting.2 h))]

/-- R118: which frames in transfer a desk write touches, and how. -/
theorem patchFrame_eq (k : Fin 16) (n least : Nat) {x : DeskAccess} {la : Nat} (p : Nat) (y : Transfer) (first : la ≤ wordAddr x) :
    ({ y with frame := patchFrame k n least x la p y.frame } : Transfer) =
      match y.frame with
      | .picture pic line tones time bytes =>
        if pic = some k ∧ line = n then
          { y with
            frame := .picture pic line tones time (bytes.mapIdx fun i b =>
              if least ≤ i ∧ i < p ∧ (la + i) / 4 * 4 = wordAddr x ∧ x.enables.getLsbD ((la + i) % 4) = true
              then x.data.extractLsb' (8 * ((la + i) % 4)) 8 else b) }
        else y
      | _ => y := by
  obtain ⟨frame, dropped, orphan⟩ := y
  cases frame with
  | picture pic line tones time bytes =>
    simp only [patchFrame, patchBytes_eq least p bytes first]
    split <;> rfl
  | _ => rfl

/-- Settles O13: `endUpkeep_eq` says what changes; the staged copy, the sessions and the frames follow position by position. -/
theorem upkeepUnitIsTold : Obligations.UpkeepUnitIsTold := by
  intro t composed s x k n la stride p running unit first
  refine ⟨_, exec_checkUpkeepUnitEnd t composed s running, ?_⟩
  rw [endUpkeep_eq (s := advance t s) composed unit]
  refine ⟨rfl, fun pic line => ?staged, fun q => ?port⟩
  case staged =>
    rw [noteChanges_store]
    refine (stagedBytes_hitStaged x k n la p s.store pic line).trans ?_
    simp only [patchBytes_eq 0 p _ first, Nat.zero_le, true_and]
  case port =>
    intro v B altered
    have contexts : (v.contexts.map fun c => if c.job.pic = k then alterContext n B c else c) =
        v.contexts.map fun c => if c.job.pic = k ∧ n < c.nextBand * B then { c with counts := altered c.counts } else c :=
      List.map_congr_left fun c _ => by
        rw [ite_and]
        rfl
    rw [noteChanges_ports]
    refine (Vector.getElem_ofFn _).trans ?_
    show retouched k n (composed.getD q.val 0) x la p B v = _
    rw [retouched, altered_session, contexts]
    exact congrArg (fun g => ({ v with session := _, contexts := _, link := { v.link with transfer := v.link.transfer.map g } } : Port))
      (funext fun y => patchFrame_eq k n (composed.getD q.val 0) p y first)

end Sys2Proof.Machine
end

section
/-! PROOFS. The checks of a setup block: which refuses it, and that tables which pass are sound (O44). -/

namespace Sys2Proof.Machine

/-! ### Refusals -/

/-- A check entry by entry refuses the lowest bad entry. -/
theorem refuseAt_lowest {n : Nat} (code : Nat) {test : Fin n → Bool} {bad : Fin n → Prop} (judges : ∀ i, test i = true ↔ bad i)
    {i : Fin n} (lowest : bad i ∧ ∀ j < i, ¬bad j) : refuseAt code test = some (loadWord code false i.val) := by
  have found : (List.finRange n).find? test = some i :=
    find?_finRange_eq_some.2 ⟨(judges i).2 lowest.1, fun j below => by
      rw [← Bool.not_eq_true, judges]
      exact lowest.2 j below⟩
  rw [refuseAt, found]
  rfl

/-- A check entry by entry passes just where no entry is bad. -/
theorem refuseAt_eq_none {n : Nat} {code : Nat} {test : Fin n → Bool} {bad : Fin n → Prop} (judges : ∀ i, test i = true ↔ bad i) :
    refuseAt code test = none ↔ ∀ i, ¬bad i := by
  rw [refuseAt, Option.map_eq_none_iff, find?_finRange_eq_none]
  exact forall_congr' fun i => by rw [← judges, Bool.not_eq_true]

theorem refuseIf_pos {code : Nat} {test : Bool} (h : test = true) : refuseIf code test = some (loadWord code false 0) := if_pos h

theorem refuseIf_neg {code : Nat} {test : Bool} (h : ¬test = true) : refuseIf code test = none := if_neg h

/-! ### What each check tests -/

/-- Two areas share an address. -/
def meets (b n b' n' : Nat) : Prop := b < b' + n' ∧ b' < b + n

theorem overlap_iff (b n b' n' : Nat) : overlap b n b' n' = true ↔ meets b n b' n' := by
  simp [overlap, meets]

theorem mem_toList_iff {α : Type} {n : Nat} (v : Vector α n) (a : α) : a ∈ v.toList ↔ ∃ i : Fin n, v[i] = a := by
  rw [Vector.mem_toList_iff, Vector.mem_iff_getElem]
  exact ⟨fun ⟨i, h, e⟩ => ⟨⟨i, h⟩, e⟩, fun ⟨i, e⟩ => ⟨i, i.isLt, e⟩⟩

theorem windowSizeOk_iff (size : Nat) : windowSizeOk size = true ↔ ∃ n, 12 ≤ n ∧ n ≤ 25 ∧ size = 2 ^ n := by
  simp only [windowSizeOk, List.any_eq_true, List.mem_range, decide_eq_true_eq]
  constructor
  · rintro ⟨i, inRange, e⟩
    exact ⟨12 + i, by omega, by omega, e⟩
  · rintro ⟨n, low, high, e⟩
    exact ⟨n - 12, by omega, by rw [e]; congr 1; omega⟩

/-- Check 1. -/
theorem misaligned_iff (w : WindowEntry) : misaligned w = true ↔
    w.kind ≠ .off ∧ ¬((∃ n, 12 ≤ n ∧ n ≤ 25 ∧ w.size = 2 ^ n) ∧ w.base % w.size = 0) := by
  rw [← windowSizeOk_iff]
  simp [misaligned, imp_iff_not_or]

/-- Check 2. -/
theorem windowOverlaps_iff (strap : BitVec 3) (w : Vector WindowEntry 8) (i : Fin 8) : windowOverlaps strap w i = true ↔
    w[i].kind ≠ .off ∧ (meets w[i].base w[i].size (setupBase strap) 0x10000 ∨
      ∃ j : Fin 8, j ≠ i ∧ w[j].kind ≠ .off ∧ meets w[i].base w[i].size w[j].base w[j].size) := by
  simp only [windowOverlaps, Bool.and_eq_true, Bool.or_eq_true, List.any_eq_true, bne_iff_ne, overlap_iff, List.mem_finRange,
    true_and, and_assoc]
  rfl

/-- Check 3. -/
theorem beyondCount_iff (w : Vector WindowEntry 8) (i : Fin 8) : beyondCount w i = true ↔
    w[i].kind ≠ .off ∧ (if w[i].kind = .picture then 4 else 1) <
      ((List.finRange 8).filter fun j => decide (j ≤ i ∧ w[j].kind = w[i].kind)).length := by
  simp only [beyondCount, Bool.and_eq_true, bne_iff_ne, decide_eq_true_eq, Bool.decide_and]
  rfl

/-- The window of a kind is smaller than the slots it has to hold. -/
def tooSmall (w : Vector WindowEntry 8) (kind : WindowKind) (n : Nat) : Bool :=
  match windowOf w kind with
  | some e => decide (e.size < n)
  | none => false

theorem tooSmall_iff (w : Vector WindowEntry 8) (kind : WindowKind) (n : Nat) :
    tooSmall w kind n = true ↔ ∃ e, windowOf w kind = some e ∧ e.size < n := by
  unfold tooSmall
  cases windowOf w kind <;> simp

/-- Check 4. -/
theorem ringSizeFault_eq (c : Setup) : ringSizeFault c =
    if tooSmall c.windows .jobs (c.jobSlots * 128) = true then some 0
    else if tooSmall c.windows .slips (c.ringCapacity * 64) = true then some 1 else none := rfl

/-- Check 4 passes just where the slots fit the windows they are kept in. -/
theorem ringSizeFault_eq_none {c : Setup} : ringSizeFault c = none ↔
    (∀ e, windowOf c.windows .jobs = some e → 128 * c.jobSlots ≤ e.size) ∧
      ∀ e, windowOf c.windows .slips = some e → 64 * c.ringCapacity ≤ e.size := by
  have fits (kind : WindowKind) (n m : Nat) : ¬tooSmall c.windows kind (n * m) = true ↔
      ∀ e, windowOf c.windows kind = some e → m * n ≤ e.size := by
    rw [tooSmall_iff, Nat.mul_comm]
    simp
  rw [ringSizeFault_eq, ← fits, ← fits]
  split_ifs with jobs slips
  · exact iff_of_false (by simp) fun ok => ok.1 jobs
  · exact iff_of_false (by simp) fun ok => ok.2 slips
  · exact iff_of_true rfl ⟨jobs, slips⟩

/-- Check 5. -/
theorem ringInUse_iff (s : State) (c : Setup) : ringInUse s c = true ↔
    ((windowOf c.windows .slips).map (·.base) ≠ (windowOf s.cfg.windows .slips).map (·.base) ∨
      c.ringCapacity ≠ s.cfg.ringCapacity) ∧ (true ∈ s.composer.filled ∨ s.composer.pending ≠ []) := by
  simp only [ringInUse, ringDiffers, Bool.and_eq_true, Bool.or_eq_true, bne_iff_ne, List.any_eq_true, id, exists_eq_right,
    Bool.not_eq_true', List.isEmpty_eq_false_iff]
  rw [ne_comm (a := Option.map _ (windowOf s.cfg.windows .slips)), ne_comm (a := s.cfg.ringCapacity)]

/-- Check 6. -/
theorem slotBad_iff (c : Setup) (i : Fin 16) : slotBad c i = true ↔
    c.slots[i].size ≠ 0 ∧ ¬(c.slots[i].size % 4 = 0 ∧ 59520 ≤ c.slots[i].size ∧ c.slots[i].base % 4 = 0 ∧
      (∃ j : Fin 8, c.windows[j].kind = .picture ∧ c.windows[j].base ≤ c.slots[i].base ∧
        c.slots[i].base + c.slots[i].size ≤ c.windows[j].base + c.windows[j].size) ∧
      ∀ j : Fin 16, j ≠ i → c.slots[j].size ≠ 0 →
        ¬meets c.slots[i].base c.slots[i].size c.slots[j].base c.slots[j].size) := by
  have inside : insidePicture c.windows c.slots[i] = true ↔ ∃ j : Fin 8, c.windows[j].kind = .picture ∧
      c.windows[j].base ≤ c.slots[i].base ∧ c.slots[i].base + c.slots[i].size ≤ c.windows[j].base + c.windows[j].size := by
    simp only [insidePicture, List.any_eq_true, mem_toList_iff, Bool.and_eq_true, decide_eq_true_eq, and_assoc]
    exact ⟨fun ⟨w, ⟨j, e⟩, h⟩ => ⟨j, e ▸ h⟩, fun ⟨j, h⟩ => ⟨_, ⟨j, rfl⟩, h⟩⟩
  rw [← inside]
  simp only [slotBad, Bool.and_eq_true, Bool.or_eq_true, List.any_eq_true, bne_iff_ne, decide_eq_true_eq, overlap_iff,
    List.mem_finRange, true_and, Bool.not_eq_true', not_and_or, not_forall, not_not, not_le, exists_prop, or_assoc, and_assoc,
    Bool.not_eq_true, ne_eq]

/-- Check 7. -/
theorem slotInUse_iff (s : State) (c : Setup) (i : Fin 16) :
    slotInUse s c i = true ↔ s.pics[i].state ≠ .empty ∧ c.slots[i] ≠ s.cfg.slots[i] := by
  simp only [slotInUse, Bool.and_eq_true, bne_iff_ne]

/-- Check 8. -/
theorem portBusy_iff (s : State) (c : Setup) (p : Fin 4) : portBusy s c p = true ↔ c.ports[p] ≠ s.cfg.ports[p] ∧
    (s.ports[p].session.state ≠ .idle ∨ s.ports[p].queue ≠ [] ∨ s.ports[p].contexts ≠ []) := by
  simp only [portBusy, Bool.and_eq_true, Bool.or_eq_true, bne_iff_ne, Bool.not_eq_true', List.isEmpty_eq_false_iff, or_assoc, ne_eq]

/-! ### The checks in order -/

theorem partChecks_two (s : State) (c : Setup) : partChecks s c 2 =
    (refuseAt 3 fun i : Fin 8 => misaligned c.windows[i]).or ((refuseAt 2 (windowOverlaps s.strap c.windows)).or
      ((refuseAt 4 (beyondCount c.windows)).or (((ringSizeFault c).map fun e => loadWord 7 false e).or (refuseIf 8 (ringInUse s c))))) := by
  simp only [partChecks, checkRingInUse, Option.or_assoc]

theorem partChecks_three (s : State) (c : Setup) :
    partChecks s c 3 = (refuseAt 5 (slotBad c)).or (refuseAt 6 (slotInUse s c)) := rfl

theorem partChecks_port (s : State) (c : Setup) (p : Fin 4) :
    partChecks s c (5 + p) = if portBusy s c p = true then some (loadWord 9 false p.val) else none := by
  fin_cases p <;> rfl

theorem adoptionCheck_eq (s : State) (c : Setup) : adoptionCheck s c =
    (refuseAt 6 (slotInUse s c)).or ((refuseIf 8 (ringInUse s c)).or (refuseAt 9 (portBusy s c))) := rfl

/-! ### Sound tables -/

/-- The first window of a kind. -/
theorem windowOf_eq (w : Vector WindowEntry 8) (kind : WindowKind) :
    windowOf w kind = ((List.finRange 8).find? fun j => w[j].kind = kind).map fun j => w[j] := by
  have entries : w.toList = (List.finRange 8).map fun j => w[j] := by
    refine List.ext_getElem (by simp) fun i _ _ => ?_
    simp
  rw [windowOf, entries, List.find?_map]
  rfl

/-- Where a kind is there once, its window is the one entry of that kind. -/
theorem windowOf_of_single {w : Vector WindowEntry 8} {i : Fin 8}
    (single : ((List.finRange 8).filter fun j => decide (w[j].kind = w[i].kind)).length ≤ 1) :
    windowOf w w[i].kind = some w[i] := by
  have same (j : Fin 8) (kind : w[j].kind = w[i].kind) : j = i := by
    by_contra ne
    have two : [i, j].Subperm ((List.finRange 8).filter fun j => decide (w[j].kind = w[i].kind)) :=
      List.Nodup.subperm (List.nodup_cons.2 ⟨fun isIn => ne (List.mem_singleton.1 isIn).symm, List.nodup_singleton j⟩)
        (List.cons_subset.2 ⟨List.mem_filter.2 ⟨List.mem_finRange i, decide_eq_true rfl⟩,
          List.cons_subset.2 ⟨List.mem_filter.2 ⟨List.mem_finRange j, decide_eq_true kind⟩, List.nil_subset _⟩⟩)
    exact absurd (two.length_le.trans single) (by decide : ¬2 ≤ 1)
  rw [windowOf_eq, find?_finRange_eq_some.2 ⟨decide_eq_true rfl, fun j below => decide_eq_false fun kind => below.ne (same j kind)⟩]
  rfl

/-- R1: entries of a kind that are none of them beyond the limit are not more than the limit. -/
theorem count_le_of_not_beyond {w : Vector WindowEntry 8} {kind : WindowKind} {limit : Nat}
    (within : ∀ i : Fin 8, w[i].kind = kind →
      ((List.finRange 8).filter fun j => decide (j ≤ i ∧ w[j].kind = w[i].kind)).length ≤ limit) :
    ((List.finRange 8).filter fun j => decide (w[j].kind = kind)).length ≤ limit := by
  rcases Finset.eq_empty_or_nonempty (Finset.univ.filter fun j : Fin 8 => w[j].kind = kind) with none | some
  · have absent : ((List.finRange 8).filter fun j => decide (w[j].kind = kind)) = [] := by
      refine List.filter_eq_nil_iff.2 fun j _ => ?_
      simpa using Finset.filter_eq_empty_iff.1 none (Finset.mem_univ j)
    rw [absent]
    exact Nat.zero_le _
  · obtain ⟨last, isKind, greatest⟩ := Finset.exists_max_image _ id some
    have kind_last : w[last].kind = kind := (Finset.mem_filter.1 isKind).2
    have all : ((List.finRange 8).filter fun j => decide (w[j].kind = kind)) =
        (List.finRange 8).filter fun j => decide (j ≤ last ∧ w[j].kind = w[last].kind) := by
      refine List.filter_congr fun j _ => decide_eq_decide.2 ?_
      rw [kind_last]
      exact ⟨fun h => ⟨greatest j (Finset.mem_filter.2 ⟨Finset.mem_univ j, h⟩), h⟩, fun h => h.2⟩
    rw [all]
    exact within last kind_last

/-- Areas that do not meet stand one behind the other. -/
theorem apart_of_not_meets {b n b' n' : Nat} (h : ¬meets b n b' n') : b + n ≤ b' ∨ b' + n' ≤ b := by
  unfold meets at h
  omega

/-- Settles O44: each check tests what its rule says, the checks come in their order, and a block that passes has none of the faults. -/
theorem checkedTablesAreSound : Obligations.CheckedTablesAreSound := by
  refine ⟨fun s c => ?order, fun s c part2 part3 => ?sound⟩
  case order =>
    intro w setup word lowest meet misaligned overlaps beyond tablesOk jobsBig slipsBig ring inUse slotBad slotInUse busy
    have judges1 : ∀ i : Fin 8, Machine.misaligned w[i] = true ↔ misaligned i := fun i => misaligned_iff w[i]
    have judges2 : ∀ i, windowOverlaps s.strap w i = true ↔ overlaps i := windowOverlaps_iff s.strap w
    have judges3 : ∀ i, beyondCount w i = true ↔ beyond i := beyondCount_iff w
    have judgesJobs : tooSmall w .jobs (c.jobSlots * 128) = true ↔ jobsBig := by
      rw [tooSmall_iff, Nat.mul_comm]
    have judgesSlips : tooSmall w .slips (c.ringCapacity * 64) = true ↔ slipsBig := by
      rw [tooSmall_iff, Nat.mul_comm]
    have judges5 : Machine.ringInUse s c = true ↔ inUse := ringInUse_iff s c
    have judges6 : ∀ i, Machine.slotBad c i = true ↔ slotBad i := slotBad_iff c
    have judges7 : ∀ i, Machine.slotInUse s c i = true ↔ slotInUse i := slotInUse_iff s c
    have judges8 : ∀ p, portBusy s c p = true ↔ busy p := portBusy_iff s c
    have pass1 (h : ∀ i, ¬misaligned i) := (refuseAt_eq_none (code := 3) judges1).2 h
    have pass2 (h : ∀ i, ¬overlaps i) := (refuseAt_eq_none (code := 2) judges2).2 h
    have pass3 (h : ∀ i, ¬beyond i) := (refuseAt_eq_none (code := 4) judges3).2 h
    have tables (h : tablesOk) : partChecks s c 2 =
        ((ringSizeFault c).map fun e => loadWord 7 false e).or (refuseIf 8 (Machine.ringInUse s c)) := by
      rw [partChecks_two, pass1 fun i => (h i).1, pass2 fun i => (h i).2.1, pass3 fun i => (h i).2.2]
      rfl
    have ringFits (jobs : ¬jobsBig) (slips : ¬slipsBig) : ringSizeFault c = none := by
      rw [ringSizeFault_eq, if_neg (judgesJobs.not.2 jobs), if_neg (judgesSlips.not.2 slips)]
    refine ⟨fun i low => ?_, fun i ok low => ?_, fun i ok low => ?_, fun ok jobs => ?_, fun ok jobs slips => ?_,
      fun ok jobs slips used => ?_, fun ok jobs slips unused => ?_, fun i low => ?_, fun i ok low => ?_, fun ok => ?_,
      fun p => ⟨fun isBusy => ?_, fun idle => ?_⟩, ⟨rfl, rfl⟩, fun i low => ?_, fun ok used => ?_, fun p ok unused low => ?_,
      fun ok unused idle => ?_⟩
    · rw [partChecks_two, refuseAt_lowest 3 judges1 low]
      rfl
    · rw [partChecks_two, pass1 ok, refuseAt_lowest 2 judges2 low]
      rfl
    · rw [partChecks_two, pass1 fun j => (ok j).1, pass2 fun j => (ok j).2, refuseAt_lowest 4 judges3 low]
      rfl
    · rw [tables ok, ringSizeFault_eq, if_pos (judgesJobs.2 jobs)]
      rfl
    · rw [tables ok, ringSizeFault_eq, if_neg (judgesJobs.not.2 jobs), if_pos (judgesSlips.2 slips)]
      rfl
    · rw [tables ok, ringFits jobs slips, refuseIf_pos (judges5.2 used)]
      rfl
    · rw [tables ok, ringFits jobs slips, refuseIf_neg (judges5.not.2 unused)]
      rfl
    · rw [partChecks_three, refuseAt_lowest 5 judges6 low]
      rfl
    · rw [partChecks_three, (refuseAt_eq_none judges6).2 ok, refuseAt_lowest 6 judges7 low]
      rfl
    · rw [partChecks_three, (refuseAt_eq_none judges6).2 fun i => (ok i).1, (refuseAt_eq_none judges7).2 fun i => (ok i).2]
      rfl
    · rw [partChecks_port, if_pos ((judges8 p).2 isBusy)]
      rfl
    · rw [partChecks_port, if_neg ((judges8 p).not.2 idle)]
    · rw [adoptionCheck_eq, refuseAt_lowest 6 judges7 low]
      rfl
    · rw [adoptionCheck_eq, (refuseAt_eq_none judges7).2 ok, refuseIf_pos (judges5.2 used)]
      rfl
    · rw [adoptionCheck_eq, (refuseAt_eq_none judges7).2 ok, refuseIf_neg (judges5.not.2 unused), refuseAt_lowest 9 judges8 low]
      rfl
    · rw [adoptionCheck_eq, (refuseAt_eq_none judges7).2 ok, refuseIf_neg (judges5.not.2 unused), (refuseAt_eq_none judges8).2 idle]
      rfl
  case sound =>
    intro w setup
    rw [partChecks_two] at part2
    rw [partChecks_three] at part3
    simp only [Option.or_eq_none_iff, Option.map_eq_none_iff] at part2 part3
    obtain ⟨aligned, apart, counted, ringFits, -⟩ := part2
    obtain ⟨slots, -⟩ := part3
    rw [refuseAt_eq_none fun i : Fin 8 => misaligned_iff w[i]] at aligned
    rw [refuseAt_eq_none (windowOverlaps_iff s.strap w)] at apart
    rw [refuseAt_eq_none (beyondCount_iff w)] at counted
    rw [refuseAt_eq_none (slotBad_iff c)] at slots
    have counts (kind : WindowKind) (used : kind ≠ .off) :
        ((List.finRange 8).filter fun i => decide (w[i].kind = kind)).length ≤ if kind = .picture then 4 else 1 :=
      count_le_of_not_beyond fun i isKind => by
        subst isKind
        exact not_lt.1 fun more => counted i ⟨used, more⟩
    have single {i : Fin 8} {kind : WindowKind} (isKind : w[i].kind = kind) (used : kind ≠ .off) (other : kind ≠ .picture) :
        windowOf w kind = some w[i] := by
      subst isKind
      exact windowOf_of_single ((counts _ used).trans_eq (if_neg other))
    obtain ⟨jobsFit, slipsFit⟩ := ringSizeFault_eq_none.1 ringFits
    refine ⟨fun i used => ?windows, counts, fun i => ⟨fun jobs => ?jobs, fun slips => ?slips⟩, fun k used => ?slots⟩
    case windows =>
      obtain ⟨size, base⟩ := not_not.1 fun bad => aligned i ⟨used, bad⟩
      have clear (bad) := apart i ⟨used, bad⟩
      exact ⟨size, base, apart_of_not_meets fun meet => clear (.inl meet),
        fun j other usedToo => apart_of_not_meets fun meet => clear (.inr ⟨j, other, usedToo, meet⟩)⟩
    case jobs => exact jobsFit _ (single jobs (by decide) (by decide))
    case slips => exact slipsFit _ (single slips (by decide) (by decide))
    case slots =>
      obtain ⟨words, big, aligned, inside, clear⟩ := not_not.1 fun bad => slots k ⟨used, bad⟩
      exact ⟨words, big, aligned, inside, fun j other usedToo => apart_of_not_meets (clear j other usedToo)⟩

end Sys2Proof.Machine
end

section
/-! PROOFS. Every command as one effect; the pictures and the scan stay in order over each (O57). -/

namespace Sys2Proof.Machine

/-! ### The effect of each command -/

/-- The effect that `act` wraps for each command; those that `unwrapped` names have none. -/
def effectOf : Instr → State → State
  | .powerOn _ | .warmReset _ _ | .resetRelease _ _ _ _ | .deskAccess _ _ | .deskClockSecond _ => id
  | .arbiterGrant _ => arbitrate
  | .deskWrite _ => endForward false (fun e => e = .plain) fun _ s => s
  | .deskRead _ => endForward true (fun _ => true) fun _ s => s
  | .postWordWrite _ => endForward false (fun e => match e with | .post _ => true | _ => false) fun e s =>
      match e with
      | .post j => postSlot j s
      | _ => s
  | .markWordWrite _ => endForward false (fun e => match e with | .mark _ => true | _ => false) fun e s =>
      match e with
      | .mark i => takeSlot i s
      | _ => s
  | .loadWordWrite _ => endForward false (fun e => e = .load) fun _ s => startLoad s
  | .clearWordWrite _ => endForward false (fun e => match e with | .clear _ => true | _ => false) fun e s =>
      match e with
      | .clear c => clearNotices c s
      | _ => s
  | .checkUpkeepUnitEnd _ composed => endUpkeep composed
  | .scanLineWriteEnd _ => endScanLine
  | .lineFetchEnd _ => endLineFetch
  | .trailerFlagUnitEnd _ => endTrailerFlag
  | .slipRecordWriteEnd _ => endSlipWrite
  | .statusRecordWriteEnd _ => endStatusWrite
  | .intakeReaderTake _ => readerTake
  | .jobRecordReadEnd _ => endJobRead
  | .scan _ => takenJob .scan
  | .send _ => takenJob .send
  | .abortJob _ => takenJob .abortJob
  | .abortPicture _ => takenJob .abortPicture
  | .releasePicture _ => takenJob .releasePicture
  | .holdPort _ => takenJob .holdPort
  | .resumePort _ => takenJob .resumePort
  | .resultWordWriteEnd _ => endResultWrite
  | .setupPartReadEnd _ => endSetupPart
  | .loadResultWriteEnd _ => endLoadResult
  | .tachPulse _ => tachPulse
  | .indexPulse _ => fun s => if looping s.drum.state then indexPulse s else s
  | .conversionRequest _ => fun s => modPipe (conversionRequest s.now) s
  | .codeReady _ code => modPipe (codeReady code)
  | .stallTimerExpiry _ => fun s => if due s.drum.stall s.now then drumFault .stall s else s
  | .spinUpTimerExpiry _ => fun s => if due s.drum.spinUp s.now then drumFault .spinUp s else s
  | .slipTimerExpiry _ => fun s => if due s.drum.slip s.now then drumFault .slip s else s
  | .idleSpinTimerExpiry _ => fun s => if due s.drum.idleSpin s.now then modDrum (enterStopping s.now) s else s
  | .coastTimerExpiry _ => fun s => if due s.drum.coast s.now then modDrum enterStopped s else s
  | .coverOpen _ => openCover
  | .coverClose _ => modDrum fun d => { d with coverOpen := false }
  | .settleTimerExpiry _ => settleLamp
  | .homingStep _ => fun s => modDrum (homingStep s.now) s
  | .homeSwitchClose _ => closeHome
  | .homeSwitchOpen _ => modDrum fun d => { d with homeClosed := false }
  | .homingLimitExpiry _ => fun s => if homingLimitReached s.now s.drum.carriage then drumFault .carriage s else s
  | .carriageStep _ => fun s => modDrum (carriageStep s.now) s
  | .startLimitTimerExpiry _ => startLimitExpiry
  | .frameTransferEnd _ p => frameEnd p
  | .up _ p => takeUp p
  | .fail _ p cause => takeFail p cause
  | .doneItem _ p => takeDoneItem p
  | .doneFlush _ p => takeDoneFlush p
  | .slack _ p => takeSlack p
  | .heard _ p code duration data => takeHeard p code duration.toNat data
  | .ready _ p rpm ioc capable => hearSignal p 1 ([rpm] ++ leBytes 2 ioc.toNat ++ [flagByte capable])
  | .phased _ p => hearSignal p 2 []
  | .goodA _ p => hearSignal p 3 []
  | .goodB _ p => hearSignal p 4 []
  | .again _ p => hearSignal p 5 []
  | .wait _ p => hearSignal p 6 []
  | .receipt _ p number => hearSignal p 7 (leBytes 4 number.toNat)
  | .hang _ p => hearSignal p 8 []
  | .dropCarrier _ p => takeDropCarrier p
  | .dropOnHook _ p => takeDropOnHook p
  | .reportDiscarded _ _ _ => id
  | .releaseTimerExpiry _ p => releaseExpiry p
  | .seizeTimerExpiry _ p => expire .seize (fun p => endSession p .lineFailed 0) p
  | .readyTimerExpiry _ p => expire .ready (fun p => endSession p .noAnswer 0) p
  | .phasedTimerExpiry _ p => expire .phased phasedExpiry p
  | .verdictTimerExpiry _ p => expire .verdict verdictExpiry p
  | .waitTimerExpiry _ p => expire .wait waitExpiry p
  | .quietTimerExpiry _ p => expire .quiet bandStart p
  | .receiptTimerExpiry _ p => expire .receipt (fun p => endClose p false) p

/-- A wrapped command is `act` of its effect. -/
theorem exec_effectOf (c : Instr) (s : State) (wraps : unwrapped c = false) : exec c s = act (timeOf c) (effectOf c) s := by
  cases c with
  | powerOn | warmReset | resetRelease | deskAccess | deskClockSecond => exact absurd wraps (by simp [unwrapped])
  | _ => rfl

/-! ### The pictures and the scan in order -/

/-- R23, R24, R50, R70: the invariant of O57. -/
def ScanOrdered (s : State) : Prop := PictureInv s ∧ ScanInv s

/-- At most one picture is SCANNING where it is the one the pipeline names. -/
theorem scanOrdered_iff (s : State) : ScanOrdered s ↔
    (∀ k : Fin 16, pictureOk s.pics[k]) ∧ (∀ k : Fin 16, s.pics[k].state = .scanning ↔ s.pipe.state ≠ .idle ∧ k = s.pipe.pic) ∧
    (s.drum.scanHeld = true ↔ s.pipe.state ≠ .idle) := by
  refine ⟨fun ⟨⟨ok, _⟩, named, held⟩ => ⟨ok, named, held⟩, fun ⟨ok, named, held⟩ => ⟨⟨ok, fun k l scanK scanL => ?_⟩, named, held⟩⟩
  rw [((named k).1 scanK).2, ((named l).1 scanL).2]

/-- A picture record without its counters. -/
def uncounted (r : PictureRecord) : PictureRecord :=
  { r with refs := 0, collisionDrops := 0, alteredWrites := 0, heldLines := 0, checkErrors := 0 }

/-- What the invariant and the Status Writer's flags stand on: the pictures but for their counters, the scan state and picture of the
pipeline, whether the drum holds a scan, and the Status Writer. -/
def outline (s : State) : Vector PictureRecord 16 × ScanState × Fin 16 × Bool × StatusWriter :=
  (s.pics.map uncounted, s.pipe.state, s.pipe.pic, s.drum.scanHeld, s.status)

/-- An event that leaves the Status Writer alone and keeps the pictures and the scan in order. -/
structure Keeps (a b : State) : Prop where
  status : b.status = a.status
  order : ScanOrdered a → ScanOrdered b

theorem uncounted_of_outline {a b : State} (h : outline b = outline a) (k : Fin 16) :
    uncounted b.pics[k] = uncounted a.pics[k] := by
  have at_k := congrArg (fun v => v.1[k]) h
  simpa only [outline, Fin.getElem_fin, Vector.getElem_map] using at_k

theorem pictureOk_of_uncounted {r r' : PictureRecord} (h : uncounted r' = uncounted r) (ok : pictureOk r) : pictureOk r' := by
  have same : pictureOk (uncounted r) := ok
  rw [← h] at same
  exact same

/-- What `uncounted` leaves of a record, as far as the invariant reads it. -/
theorem fields_of_uncounted {r r' : PictureRecord} (h : uncounted r' = uncounted r) :
    r'.state = r.state ∧ r'.mark = r.mark ∧ r'.lines = r.lines ∧ r'.cause = r.cause := by
  simp only [uncounted, PictureRecord.mk.injEq] at h
  obtain ⟨state, -, -, -, -, -, lines, mark, -, cause, -⟩ := h
  exact ⟨state, mark, lines, cause⟩

theorem state_of_uncounted {r r' : PictureRecord} (h : uncounted r' = uncounted r) : r'.state = r.state :=
  (fields_of_uncounted h).1

/-- An event that leaves the outline alone. -/
theorem Keeps.of_outline {a b : State} (h : outline b = outline a) : Keeps a b := by
  have parts := h
  simp only [outline, Prod.mk.injEq] at parts
  obtain ⟨-, state, pic, held, status⟩ := parts
  have pics (k : Fin 16) : uncounted b.pics[k] = uncounted a.pics[k] := uncounted_of_outline h k
  refine ⟨status, fun ordered => ?_⟩
  obtain ⟨ok, named, holds⟩ := (scanOrdered_iff a).1 ordered
  refine (scanOrdered_iff b).2 ⟨fun k => pictureOk_of_uncounted (pics k) (ok k), fun k => ?_, ?_⟩
  · rw [state_of_uncounted (pics k), state, pic]
    exact named k
  · rw [held, state]
    exact holds

theorem Keeps.refl (s : State) : Keeps s s := .of_outline rfl

theorem Keeps.trans {a b c : State} (ab : Keeps a b) (bc : Keeps b c) : Keeps a c :=
  ⟨bc.status.trans ab.status, fun ordered => bc.order (ab.order ordered)⟩

/-- `Keeps.trans` from the last event back, as a composition of operations is written. -/
theorem Keeps.after {a b c : State} (bc : Keeps b c) (ab : Keeps a b) : Keeps a c := ab.trans bc

theorem Keeps.ite {p : Prop} [Decidable p] {a b c : State} (yes : p → Keeps a b) (no : ¬p → Keeps a c) :
    Keeps a (if p then b else c) := by
  split
  case isTrue h => exact yes h
  case isFalse h => exact no h

theorem Keeps.foldl {α : Type} {f : State → α → State} (each : ∀ x a, Keeps x (f x a)) (l : List α) (s : State) :
    Keeps s (l.foldl f s) := by
  induction l generalizing s with
  | nil => exact .refl s
  | cons a l ih => exact (each s a).trans (ih (f s a))

/-! #### What leaves the outline alone -/

theorem outline_of_sessionPart {a b : State} (h : sessionPart b = sessionPart a) : outline b = outline a := by
  have parts : outline (sessionPart b) = outline (sessionPart a) := by rw [h]
  have same (s : State) : outline (sessionPart s) = outline s := by
    simp only [outline, sessionPart, Vector.map_map, Prod.mk.injEq, and_true]
    rfl
  rwa [same, same] at parts

theorem Keeps.of_sessionPart {a b : State} (h : sessionPart b = sessionPart a) : Keeps a b :=
  .of_outline (outline_of_sessionPart h)

theorem outline_modPic {k : Fin 16} {f : PictureRecord → PictureRecord} (h : ∀ r, uncounted (f r) = uncounted r) (s : State) :
    outline (modPic k f s) = outline s := by
  simp only [outline, modPic_pipe, modPic_drum, modPic_status, Prod.mk.injEq, and_true]
  exact vector_set_map uncounted s.pics k.val k.isLt _ (h _)

theorem outline_modDrum {f : Drum → Drum} {s : State} (h : (f s.drum).scanHeld = s.drum.scanHeld) :
    outline (modDrum f s) = outline s := by
  simp only [outline, modDrum_pics, modDrum_pipe, modDrum_drum, modDrum_status, h]

theorem outline_modPipe {f : Pipeline → Pipeline} {s : State} (state : (f s.pipe).state = s.pipe.state)
    (pic : (f s.pipe).pic = s.pipe.pic) : outline (modPipe f s) = outline s := by
  simp only [outline, modPipe_pics, modPipe_pipe, modPipe_drum, modPipe_status, state, pic]

theorem outline_foldl {α : Type} {f : State → α → State} (each : ∀ x a, outline (f x a) = outline x) (l : List α) (s : State) :
    outline (l.foldl f s) = outline s := by
  induction l generalizing s with
  | nil => rfl
  | cons a l ih => rw [List.foldl_cons, ih, each]

theorem outline_forPorts {f : PortNo → State → State} (each : ∀ p x, outline (f p x) = outline x) (s : State) :
    outline (forPorts f s) = outline s := outline_foldl (fun x p => each p x) _ s

/-! #### The drum keeps the scan it holds -/

@[simp] theorem scanHeld_stopCarriage (d : Drum) : (stopCarriage d).scanHeld = d.scanHeld := rfl
@[simp] theorem scanHeld_lampOff (d : Drum) : (lampOff d).scanHeld = d.scanHeld := rfl
@[simp] theorem scanHeld_enterStopping (now : Nat) (d : Drum) : (enterStopping now d).scanHeld = d.scanHeld := rfl
@[simp] theorem scanHeld_enterFault (cause : FaultCause) (d : Drum) : (enterFault cause d).scanHeld = d.scanHeld := rfl
@[simp] theorem scanHeld_enterStopped (d : Drum) : (enterStopped d).scanHeld = d.scanHeld := rfl

@[simp] theorem scanHeld_startIdleSpin (c : DrumSettings) (now : Nat) (d : Drum) :
    (startIdleSpin c now d).scanHeld = d.scanHeld := by
  unfold startIdleSpin
  split <;> rfl

@[simp] theorem scanHeld_enterLocked (c : DrumSettings) (now : Nat) (d : Drum) : (enterLocked c now d).scanHeld = d.scanHeld := by
  unfold enterLocked
  dsimp only
  split
  · rfl
  · rw [scanHeld_startIdleSpin]

@[simp] theorem scanHeld_lockDecision (c : DrumSettings) (now period : Nat) (d : Drum) :
    (lockDecision c now period d).scanHeld = d.scanHeld := by
  unfold lockDecision
  dsimp only
  split
  · split <;> rfl
  · split
    · split
      · rw [scanHeld_enterLocked]
      · rfl
    · rfl

@[simp] theorem scanHeld_indexDecision (c : DrumSettings) (now : Nat) (d : Drum) :
    (indexDecision c now d).scanHeld = d.scanHeld := by
  unfold indexDecision
  dsimp only
  split
  · rfl
  · rw [scanHeld_lockDecision]

@[simp] theorem scanHeld_tachLoop (c : DrumSettings) (now : Nat) (d : Drum) : (tachLoop c now d).scanHeld = d.scanHeld := by
  unfold tachLoop
  dsimp only
  split <;> rfl

@[simp] theorem scanHeld_carriageAccept (t0 v n : Nat) (d : Drum) : (carriageAccept t0 v n d).scanHeld = d.scanHeld := by
  unfold carriageAccept
  split <;> rfl

@[simp] theorem scanHeld_homingStep (now : Nat) (d : Drum) : (homingStep now d).scanHeld = d.scanHeld := by
  unfold homingStep
  split
  · split <;> rfl
  · rfl

@[simp] theorem scanHeld_carriageStep (now : Nat) (d : Drum) : (carriageStep now d).scanHeld = d.scanHeld := by
  unfold carriageStep
  split
  · split <;> rfl
  · rfl

@[simp] theorem scanHeld_drumScanEnd (c : DrumSettings) (st : PicState) (cut : CutCause) (now : Nat) (d : Drum) :
    (drumScanEnd c st cut now d).scanHeld = false := by
  unfold drumScanEnd
  dsimp only
  split_ifs <;> simp

/-! ### The end of a scan -/

/-- R27, R61, R86: a scan end leaves the pictures alone, and the pipeline and the drum serve no scan. -/
theorem outline_scanEnd (k : Fin 16) (s : State) :
    outline (scanEnd k s) = (s.pics.map uncounted, .idle, s.pipe.pic, false, s.status) := by
  have told : outline (forPorts (tellScanEnd k) s) = outline s :=
    outline_forPorts (fun p x => outline_of_sessionPart (sessionPart_tellScanEnd k p x)) s
  simp only [outline, Prod.mk.injEq] at told
  obtain ⟨pics, -, pic, -, status⟩ := told
  simp [scanEnd, outline, pipeIdle, pics, pic, status]

/-- No scan is served, and no picture waits for one. -/
theorem scanOrdered_of_idle {s : State} (idle : s.pipe.state = .idle) (free : s.drum.scanHeld = false)
    (pics : ∀ k : Fin 16, pictureOk s.pics[k] ∧ s.pics[k].state ≠ .scanning) : ScanOrdered s :=
  (scanOrdered_iff s).2 ⟨fun k => (pics k).1,
    fun k => ⟨fun scanning => absurd scanning (pics k).2, fun ⟨busy, _⟩ => absurd idle busy⟩,
    by simp [idle, free]⟩

/-- The scan has ended in order where every picture's record is in order and none is SCANNING. -/
theorem scanOrdered_scanEnd {k : Fin 16} {s : State} (pics : ∀ j : Fin 16, pictureOk s.pics[j] ∧ s.pics[j].state ≠ .scanning) :
    ScanOrdered (scanEnd k s) := by
  have parts := outline_scanEnd k s
  simp only [outline, Prod.mk.injEq] at parts
  obtain ⟨records, idle, -, free, -⟩ := parts
  refine scanOrdered_of_idle idle free fun j => ?_
  have same : uncounted (scanEnd k s).pics[j] = uncounted s.pics[j] := by
    simpa using congrArg (fun v : Vector PictureRecord 16 => v[j]) records
  rw [state_of_uncounted same]
  exact ⟨pictureOk_of_uncounted same (pics j).1, (pics j).2⟩

/-- In order, the picture that is SCANNING becomes one that is not, and its scan ends. -/
theorem scanOrdered_ended {k : Fin 16} {f : PictureRecord → PictureRecord} {s : State}
    (others : ∀ j : Fin 16, j ≠ k → pictureOk s.pics[j] ∧ s.pics[j].state ≠ .scanning)
    (done : pictureOk (f s.pics[k]) ∧ (f s.pics[k]).state ≠ .scanning) : ScanOrdered (scanEnd k (modPic k f s)) :=
  scanOrdered_scanEnd fun j => by
    by_cases same : j = k
    · subst same
      simpa using done
    · simp only [Fin.getElem_fin, modPic_get, if_neg same]
      exact others j same

theorem ScanOrdered.others {s : State} {k : Fin 16} (ordered : ScanOrdered s) (scanning : s.pics[k].state = .scanning) (j : Fin 16)
    (other : j ≠ k) : pictureOk s.pics[j] ∧ s.pics[j].state ≠ .scanning :=
  ⟨ordered.1.1 j, fun alsoScanning => other (ordered.1.2 j k alsoScanning scanning)⟩

theorem status_scanEnd (k : Fin 16) (s : State) : (scanEnd k s).status = s.status := by
  have parts := outline_scanEnd k s
  simp only [outline, Prod.mk.injEq] at parts
  exact parts.2.2.2.2

theorem keeps_cutPicture (k : Fin 16) {cause : CutCause} (isCause : cause ≠ .noCause) (s : State) :
    Keeps s (cutPicture k cause s) := by
  refine .ite (fun scanning => ⟨?_, fun ordered => ?_⟩) fun _ => .refl s
  · exact status_scanEnd k _
  · obtain ⟨within, -, below, -⟩ := ordered.1.1 k
    refine scanOrdered_ended (ordered.others scanning) ⟨⟨within, ?_⟩, by simp⟩
    simpa [isCause] using below scanning

/-! ### The drum and the pipeline -/

theorem keeps_modDrum {f : Drum → Drum} {s : State} (h : (f s.drum).scanHeld = s.drum.scanHeld) : Keeps s (modDrum f s) :=
  .of_outline (outline_modDrum h)

theorem keeps_modPipe {f : Pipeline → Pipeline} {s : State} (state : (f s.pipe).state = s.pipe.state)
    (pic : (f s.pipe).pic = s.pipe.pic) : Keeps s (modPipe f s) :=
  .of_outline (outline_modPipe state pic)

theorem keeps_orderOut (p : PortNo) (s : State) : Keeps s (orderOut p s) := .of_sessionPart (sessionPart_orderOut p s)

theorem keeps_drumFault (cause : FaultCause) (s : State) : Keeps s (drumFault cause s) := by
  have fault : Keeps s (raise classDrum (modDrum (enterFault cause) s)) :=
    .of_outline (outline_modDrum (scanHeld_enterFault cause s.drum))
  exact .ite (fun _ => fault.trans (keeps_cutPicture _ (by decide) _)) fun _ => fault

theorem placeEntry_scan (e : LineEntry) (q : Pipeline) : (placeEntry e q).state = q.state ∧ (placeEntry e q).pic = q.pic := by
  unfold placeEntry
  split <;> exact ⟨rfl, rfl⟩

theorem keeps_acceptLine (wb : Nat × Nat) (heldRef : Bool) (t0 v : Nat) (r : Revolution) (s : State) :
    Keeps s (acceptLine wb heldRef t0 v r s) := by
  unfold acceptLine setHold
  dsimp only
  refine .trans (.trans (keeps_modPipe ?_ ?_) (keeps_modDrum (scanHeld_carriageAccept _ _ _ _)))
    (.ite (fun _ => keeps_modPipe rfl rfl) fun _ => .refl _)
  · split <;> exact (placeEntry_scan _ _).1
  · split <;> exact (placeEntry_scan _ _).2

theorem keeps_referenceFault (t0 v : Nat) (r : Revolution) (s : State) : Keeps s (referenceFault t0 v r s) := by
  unfold referenceFault
  dsimp only
  refine .trans (keeps_modPipe rfl rfl) (.ite (fun _ => keeps_cutPicture _ (by decide) _) fun _ => ?_)
  split
  · exact keeps_acceptLine _ _ _ _ _ _
  · exact .refl _

theorem keeps_judgeRev (a b : Option DrumState) (t0 v : Nat) (s : State) : Keeps s (judgeRev a b t0 v s) := by
  unfold judgeRev
  split
  · exact .refl s
  · exact .ite (fun _ => .refl s) fun _ => .ite (fun _ => .refl s) fun _ => .ite (fun _ => .refl s) fun _ =>
      .ite (fun _ => keeps_acceptLine _ _ _ _ _ s) fun _ => keeps_referenceFault _ _ _ s

theorem keeps_advanceWaits (s : State) : Keeps s (advanceWaits s) := by
  unfold advanceWaits
  split
  · exact .refl s
  · exact .trans (keeps_modPipe rfl rfl) (.foldl (fun x (a : Awaited) => keeps_orderOut a.port x) _ _)

theorem keeps_beginRev (t0 v : Nat) (s : State) : Keeps s (modPipe (beginRev t0 v) s) := keeps_modPipe rfl rfl

theorem keeps_runRev (a b : Option DrumState) (t0 v : Nat) (s : State) : Keeps s (runRev a b t0 v s) := by
  refine .trans (keeps_judgeRev a b t0 v s) (.ite (fun _ => ?_) fun _ => .refl _)
  exact .trans (keeps_advanceWaits _) (keeps_beginRev t0 v _)

/-- R73: a scan that starts goes from STARTING to RUNNING. -/
theorem keeps_startScan (t0 v : Nat) {s : State} (starting : s.pipe.state = .starting) : Keeps s (startScan t0 v s) := by
  have runs (f : Pipeline → Pipeline) (state : (f s.pipe).state = .running) (pic : (f s.pipe).pic = s.pipe.pic) :
      Keeps s (modPipe f s) := by
    refine ⟨rfl, fun ordered => ?_⟩
    obtain ⟨ok, named, held⟩ := (scanOrdered_iff s).1 ordered
    refine (scanOrdered_iff _).2 ⟨ok, fun k => ?_, ?_⟩
    · simpa [starting, state, pic] using named k
    · simpa [starting, state] using held
  have joined (x : State) : Keeps x (forPorts joinLive x) := .of_sessionPart (sessionPart_forPorts _ sessionPart_joinLive x)
  exact .trans (.trans (runs _ rfl rfl) (joined _)) (keeps_beginRev t0 v _)

theorem keeps_revolution (a b : Option DrumState) (t0 v : Nat) (s : State) : Keeps s (revolution a b t0 v s) := by
  unfold revolution
  split
  next => exact .refl s
  next starting => exact .ite (fun _ => keeps_startScan t0 v starting) fun _ => .refl s
  next => exact keeps_runRev a b t0 v s

theorem keeps_lockChange (st : DrumState) (s : State) : Keeps s (lockChange st s) := by
  refine .ite (fun _ => .ite (fun _ => keeps_modPipe rfl rfl) fun _ => .refl s) fun _ =>
    .ite (fun _ => .trans (keeps_modPipe rfl rfl) (.foldl (fun x p => ?_) _ _)) fun _ => .refl s
  exact .ite (fun _ => keeps_orderOut p x) fun _ => .refl x

theorem keeps_indexPulse (s : State) : Keeps s (indexPulse s) := by
  have decided : Keeps s { s with drum := indexDecision s.cfg.drum s.now s.drum } :=
    keeps_modDrum (f := fun d => indexDecision s.cfg.drum s.now d) (scanHeld_indexDecision _ _ _)
  unfold indexPulse
  dsimp only
  refine decided.trans (.trans (.ite (fun _ => keeps_lockChange _ _) fun _ => .refl _)
    (.ite (fun _ => keeps_revolution _ _ _ _ _) fun _ => .refl _))

theorem keeps_tachPulse (s : State) : Keeps s (tachPulse s) :=
  .ite (fun _ => keeps_modDrum (scanHeld_tachLoop _ _ _)) fun _ => .ite (fun _ => keeps_modDrum rfl) fun _ => .refl s

theorem keeps_openCover (s : State) : Keeps s (openCover s) :=
  .ite (fun _ => .refl s) fun _ => .trans (keeps_modDrum rfl) (.ite (fun _ => .refl _) fun _ => keeps_drumFault _ _)

theorem lampReport_scan (q : Pipeline) : (lampReport q).state = q.state ∧ (lampReport q).pic = q.pic := by
  unfold lampReport
  split <;> exact ⟨rfl, rfl⟩

theorem homedReport_scan (q : Pipeline) : (homedReport q).state = q.state ∧ (homedReport q).pic = q.pic := by
  unfold homedReport
  split <;> exact ⟨rfl, rfl⟩

theorem keeps_settleLamp (s : State) : Keeps s (settleLamp s) :=
  .ite (fun _ => .trans (keeps_modDrum rfl) (keeps_modPipe (lampReport_scan _).1 (lampReport_scan _).2)) fun _ => .refl s

theorem keeps_closeHome (s : State) : Keeps s (closeHome s) :=
  .trans (keeps_modDrum rfl)
    (.ite (fun _ => keeps_modPipe (homedReport_scan _).1 (homedReport_scan _).2) fun _ => .refl _)

theorem keeps_startLimitExpiry (s : State) : Keeps s (startLimitExpiry s) := by
  unfold startLimitExpiry
  split
  · exact .ite (fun _ => .trans (keeps_modPipe rfl rfl) (.foldl (fun x p => keeps_orderOut p x) _ _)) fun _ => .refl s
  · exact .refl s

theorem keeps_conversionRequest (now : Nat) (s : State) : Keeps s (modPipe (conversionRequest now) s) := by
  have scan : (conversionRequest now s.pipe).state = s.pipe.state ∧ (conversionRequest now s.pipe).pic = s.pipe.pic := by
    unfold conversionRequest
    split
    · exact ⟨rfl, rfl⟩
    · dsimp only
      split <;> exact ⟨rfl, rfl⟩
  exact keeps_modPipe scan.1 scan.2

theorem keeps_codeReady (code : BitVec 12) (s : State) : Keeps s (modPipe (codeReady code) s) := by
  have scan : (codeReady code s.pipe).state = s.pipe.state ∧ (codeReady code s.pipe).pic = s.pipe.pic := by
    unfold codeReady
    split <;> exact ⟨rfl, rfl⟩
  exact keeps_modPipe scan.1 scan.2

end Sys2Proof.Machine
end

section
/-! PROOFS. The memory path, the part's own units and Job Intake keep the pictures and the scan in order, and so every command (O57). -/

namespace Sys2Proof.Machine

/-! ### The memory path -/

theorem Keeps.congr {a b b' : State} (keeps : Keeps a b) (h : sessionPart b' = sessionPart b) : Keeps a b' :=
  keeps.trans (.of_sessionPart h)

/-- A change of a picture's counters alone. -/
theorem keeps_modPic (k : Fin 16) (f : PictureRecord → PictureRecord) (s : State)
    (h : ∀ r, uncounted (f r) = uncounted r := by intro; rfl) : Keeps s (modPic k f s) := .of_outline (outline_modPic h s)

theorem keeps_raise (c : Nat) (s : State) : Keeps s (raise c s) := .of_outline rfl
theorem keeps_modStore (f : LineStore → LineStore) (s : State) : Keeps s (modStore f s) := .of_outline rfl
theorem keeps_modCounts (p : PortNo) (f : Counts → Counts) (s : State) : Keeps s (modCounts p f s) := .of_outline rfl

theorem keeps_grantDesk (s : State) : Keeps s (grantDesk s) := by
  unfold grantDesk
  split
  · exact .refl s
  · dsimp only
    split
    · exact .of_outline rfl
    · exact .of_outline rfl
    · exact .after (keeps_raise _ _) (.after (keeps_modPic _ _ _) (.of_outline rfl))
    · exact .of_outline rfl

/-- The invariant reads the pictures, the pipeline and the drum alone. -/
theorem ScanOrdered.congr {a b : State} (ordered : ScanOrdered a) (pics : b.pics = a.pics) (pipe : b.pipe = a.pipe)
    (drum : b.drum = a.drum) : ScanOrdered b := by
  rw [scanOrdered_iff, pics, pipe, drum]
  exact (scanOrdered_iff a).1 ordered

theorem ScanOrdered.grant {s : State} (ordered : ScanOrdered s) (r : Requester) : ScanOrdered (grant r s) := by
  cases r with
  | desk => exact (keeps_grantDesk s).order ordered
  | scanWriter =>
    simp only [Machine.grant, grantScanLine]
    split <;> exact ordered.congr rfl rfl rfl
  | lineFetch p =>
    simp only [Machine.grant, grantFetch]
    split
    · exact ordered
    · split <;> exact ordered.congr rfl rfl rfl
  | statusWriter =>
    simp only [Machine.grant, grantStatus]
    split <;> exact ordered.congr rfl rfl rfl
  | intakeReader | setupLoader | slipWriter | trailerWriter => exact ordered.congr rfl rfl rfl

theorem ScanOrdered.arbitrate {s : State} (ordered : ScanOrdered s) : ScanOrdered (arbitrate s) := by
  unfold Machine.arbitrate
  split
  · split
    · exact ordered.grant _
    · exact ordered
  · exact ordered

theorem keeps_endForward {read : Bool} {want : WatchEvent → Bool} {f : WatchEvent → State → State} (each : ∀ e x, Keeps x (f e x))
    (s : State) : Keeps s (endForward read want f s) := by
  unfold endForward
  split
  · exact .ite (fun _ => .refl s) fun _ => .after (each _ _) (.of_outline rfl)
  · exact .refl s

theorem keeps_endUpkeep (composed : List Nat) (s : State) : Keeps s (endUpkeep composed s) := by
  unfold endUpkeep
  split
  next x k n la stride p _ =>
    have patched (y : State) : Keeps y (forPorts (patchTransfer k n composed x la p) y) :=
      .of_sessionPart (sessionPart_forPorts _ (sessionPart_patchTransfer k n composed x la p) y)
    have told (y : State) : Keeps y (forPorts (tellAltered k n) y) :=
      .of_sessionPart (sessionPart_forPorts _ (sessionPart_tellAltered k n) y)
    dsimp only
    exact .after (told _) (.after (keeps_modPic _ _ _) (.after (keeps_modStore _ _) (.after (patched _) (.of_outline rfl))))
  next => exact .refl s

/-! ### The part's own units -/

/-- A picture's record changes in order, SCANNING or not as before. -/
theorem ScanOrdered.modPic {k : Fin 16} {f : PictureRecord → PictureRecord} {s : State} (ordered : ScanOrdered s)
    (ok : pictureOk (f s.pics[k])) (same : (f s.pics[k]).state = .scanning ↔ s.pics[k].state = .scanning) :
    ScanOrdered (modPic k f s) := by
  obtain ⟨all, named, held⟩ := (scanOrdered_iff s).1 ordered
  refine (scanOrdered_iff _).2 ⟨fun j => ?_, fun j => ?_, held⟩
  · by_cases isK : j = k
    · subst isK
      simpa only [Fin.getElem_fin, modPic_same] using ok
    · simpa only [Fin.getElem_fin, modPic_get, if_neg isK] using all j
  · by_cases isK : j = k
    · subst isK
      simpa only [Fin.getElem_fin, modPic_same, modPic_pipe] using same.trans (named j)
    · simpa only [Fin.getElem_fin, modPic_get, if_neg isK, modPic_pipe] using named j

theorem sessionPart_told (e : LineEntry) (s : State) :
    sessionPart (forPorts (lineReady e.pic e.line e.lineTime) (installLine e.pic e.line e.bytes s)) = sessionPart s :=
  (sessionPart_forPorts _ (sessionPart_lineReady e.pic e.line e.lineTime) _).trans (sessionPart_installLine _ _ _ s)

/-- R25, R26: the mark advances in order: the picture is still SCANNING below L, and at L it is COMPLETE and its scan ends. -/
theorem keeps_advanceMark {e : LineEntry} {s : State} (advances : advancesMark s e = true) : Keeps s (advanceMark e s) := by
  simp only [advancesMark, Bool.and_eq_true, decide_eq_true_eq] at advances
  obtain ⟨⟨-, scanning⟩, atMark⟩ := advances
  obtain ⟨x, isTold⟩ : ∃ x, x = forPorts (lineReady e.pic e.line e.lineTime)
      (installLine e.pic e.line e.bytes (modPic e.pic (markAdvanced e) s)) := ⟨_, rfl⟩
  have part : sessionPart x = sessionPart (modPic e.pic (markAdvanced e) s) := isTold ▸ sessionPart_told e _
  have told : Keeps (modPic e.pic (markAdvanced e) s) x := .of_sessionPart part
  have same (j : Fin 16) : uncounted x.pics[j] = uncounted (modPic e.pic (markAdvanced e) s).pics[j] :=
    uncounted_of_outline (outline_of_sessionPart part) j
  have at_pic := same e.pic
  simp only [Fin.getElem_fin, modPic_same] at at_pic
  obtain ⟨-, mark, lines, cause⟩ : _ ∧ x.pics[e.pic].mark = e.line + 1 ∧ x.pics[e.pic].lines = s.pics[e.pic].lines ∧
    x.pics[e.pic].cause = s.pics[e.pic].cause := fields_of_uncounted at_pic
  have advanced : advanceMark e s = completePicture e.pic x := by rw [isTold]; rfl
  rw [advanced]
  refine .ite (fun last => ⟨(status_scanEnd _ _).trans told.status, fun ordered => ?_⟩) fun more => ⟨told.status, fun ordered => told.order ?_⟩
  · obtain ⟨-, -, -, -, -, cut⟩ := ordered.1.1 e.pic
    have uncut : s.pics[e.pic].cause = .noCause := not_not.1 fun isCause => absurd (scanning.symm.trans (cut.2 isCause)) (by decide)
    refine scanOrdered_ended (fun j other => ?_) ⟨⟨last.le, ?_⟩, by simp⟩
    · have unchanged : uncounted x.pics[j] = uncounted s.pics[j] := by
        rw [same]
        simp only [Fin.getElem_fin, modPic_get, if_neg other]
      obtain ⟨ok, idle⟩ := ordered.others scanning j other
      rw [state_of_uncounted unchanged]
      exact ⟨pictureOk_of_uncounted unchanged ok, idle⟩
    · exact ⟨by simp, by simp, fun _ => last, by simp, by simp, fun isCause => absurd (cause.trans uncut) isCause⟩
  · obtain ⟨-, -, below, -, -, cut⟩ := ordered.1.1 e.pic
    have room : e.line + 1 < s.pics[e.pic].lines := by
      have := below scanning
      rw [mark, lines] at more
      omega
    exact ordered.modPic ⟨room.le, fun empty => absurd (scanning.symm.trans empty) (by decide), fun _ => room,
      fun complete => absurd (scanning.symm.trans complete) (by decide), fun _ => room, cut⟩ Iff.rfl

theorem keeps_endScanLine (s : State) : Keeps s (endScanLine s) := by
  unfold endScanLine
  split
  · split
    · exact .of_outline rfl
    · exact .after (keeps_modPipe rfl rfl) (.after (.ite keeps_advanceMark fun _ => .refl _) (.of_outline rfl))
  · exact .refl s

theorem keeps_joinTrailers (f : LineFailure) (s : State) : Keeps s (joinTrailers f s) :=
  .ite (fun _ => .refl s) fun _ => .of_outline rfl

theorem keeps_releaseHeldFailure (s : State) : Keeps s (releaseHeldFailure s) := by
  unfold releaseHeldFailure
  split
  · exact .ite (fun _ => .after (keeps_joinTrailers _ _) (.of_outline rfl)) fun _ => .refl s
  · exact .refl s

theorem keeps_failFetch (p : PortNo) (stood : Bool) (f : LineFailure) (s : State) : Keeps s (failFetch p stood f s) := by
  unfold failFetch passFailure
  dsimp only
  exact .after (.ite (fun _ => keeps_joinTrailers _ _) fun _ => keeps_modStore _ _) (.after (keeps_raise _ _)
    (.after (.ite (fun _ => keeps_modCounts _ _ _) fun _ => .refl _)
      (.after (keeps_modPic _ _ _) (keeps_modStore _ _))))

theorem keeps_endFetch (p : PortNo) (pic : Fin 16) (line : Nat) (w : Bool) (trailerAddr : Nat) (dropped : Bool)
    (density trailer : List Byte) (s : State) : Keeps s (endFetch p pic line w trailerAddr dropped density trailer s) := by
  unfold endFetch
  dsimp only
  refine .ite (fun _ => .after (.of_sessionPart (sessionPart_unjoin _ _ _)) (keeps_modStore _ _)) fun _ => ?_
  exact .after (.of_sessionPart (sessionPart_answerWaiters _ _ _ _))
    (.after (.ite (fun _ => .refl _) fun _ => keeps_failFetch _ _ _ _) (keeps_modStore _ _))

theorem keeps_endLineFetch (s : State) : Keeps s (endLineFetch s) := by
  unfold endLineFetch
  split
  · exact .after (.of_sessionPart (sessionPart_forPorts _ sessionPart_service _))
      (.after (keeps_endFetch _ _ _ _ _ _ _ _ _) (.of_outline rfl))
  · exact .refl s

theorem keeps_endTrailerFlag (s : State) : Keeps s (endTrailerFlag s) := by
  unfold endTrailerFlag
  split
  · exact .after (keeps_releaseHeldFailure _) (.of_outline rfl)
  · exact .refl s

theorem keeps_judgeWriter (s : State) : Keeps s (judgeWriter s) := .of_sessionPart (sessionPart_judgeWriter s)

theorem keeps_takeSlot (i : Nat) (s : State) : Keeps s (takeSlot i s) := .after (keeps_judgeWriter _) (.of_outline rfl)

theorem keeps_endSlipWrite (s : State) : Keeps s (endSlipWrite s) := by
  unfold endSlipWrite
  split
  · dsimp only
    split
    · exact .of_outline rfl
    · exact .after (keeps_judgeWriter _) (.after
        (.ite (fun _ => .of_sessionPart (sessionPart_portFreed _ _)) fun _ => .refl _) (.after (keeps_raise _ _) (.of_outline rfl)))
  · exact .refl s

theorem keeps_endStatusWrite (s : State) : Keeps s (endStatusWrite s) := by
  unfold endStatusWrite
  split <;> exact .of_outline rfl

theorem keeps_postSlot (j : Nat) (s : State) : Keeps s (postSlot j s) := .ite (fun _ => .refl s) fun _ => .of_outline rfl

theorem keeps_startLoad (s : State) : Keeps s (startLoad s) := .ite (fun _ => .of_outline rfl) fun _ => .refl s

theorem keeps_endLoadResult (s : State) : Keeps s (endLoadResult s) := by
  unfold endLoadResult
  split <;> exact .of_outline rfl

theorem keeps_clockSecond (s : State) : Keeps s (clockSecond s) := .ite (fun _ => .of_outline rfl) fun _ => .refl s

theorem ScanOrdered.adopt {s : State} (ordered : ScanOrdered s) (l : Loader) : ScanOrdered (adopt l s) :=
  (keeps_judgeWriter _).order (ordered.congr rfl rfl rfl)

theorem ScanOrdered.endSetupPart {s : State} (ordered : ScanOrdered s) : ScanOrdered (endSetupPart s) := by
  unfold Machine.endSetupPart
  split
  · unfold afterPart
    dsimp only
    split
    · exact ordered.congr rfl rfl rfl
    · split
      · exact ordered.congr rfl rfl rfl
      · split
        · exact ordered.congr rfl rfl rfl
        · exact (ScanOrdered.adopt (s := endUnit _ s) (ordered.congr rfl rfl rfl) _).congr rfl rfl rfl
  · exact ordered

/-! ### Job Intake -/

/-- R93: a job is taken when no check fails. -/
theorem refusalOf_eq_none {s : State} {r : List Byte} : refusalOf s r = none ↔ ∀ c ∈ jobChecks s r, c.1 = false := by
  simp [refusalOf]

theorem isKind_iff {r : List Byte} {k : JobKind} : isKind r k = true ↔ kindOf r = some k := by
  simp [isKind]

theorem scanningPicture_eq_none {s : State} : scanningPicture s = none ↔ ∀ k : Fin 16, s.pics[k].state ≠ .scanning := by
  simp [scanningPicture]

/-- R93: a SCAN job is taken only for an EMPTY picture while none is SCANNING, and with 32 lines or more (checks 10, 11, 12). -/
theorem scan_taken {s : State} {r : List Byte} (kind : kindOf r = some .scan) (taken : refusalOf s r = none) :
    s.pics[recSlot r].state = .empty ∧ (∀ k : Fin 16, s.pics[k].state ≠ .scanning) ∧ 32 ≤ recLines r := by
  have passes := refusalOf_eq_none.1 taken
  have isScan : isKind r .scan = true := isKind_iff.2 kind
  have notSend : isKind r .send = false := by simp [isKind, kind]
  have lines := passes (isKind r .scan && badLines s r, 10) (by simp [jobChecks])
  have empty := passes ((isKind r .scan && s.pics[recSlot r].state != .empty) || (isKind r .send && s.pics[recSlot r].state = .empty), 11)
    (by simp [jobChecks])
  have alone := passes (isKind r .scan && (scanningPicture s).isSome, 12) (by simp [jobChecks])
  simp only [isScan, Bool.true_and, badLines, Bool.or_eq_false_iff, decide_eq_false_iff_not, not_lt] at lines
  refine ⟨by simpa [isScan, notSend] using empty, scanningPicture_eq_none.1 (by simpa [isScan] using alone), lines.1.1⟩

/-- R93: a RELEASE-PICTURE job is taken only for a picture that is not SCANNING (check 16). -/
theorem release_taken {s : State} {r : List Byte} (kind : kindOf r = some .releasePicture) (taken : refusalOf s r = none) :
    s.pics[recSlot r].state ≠ .scanning := by
  have isRelease : isKind r .releasePicture = true := isKind_iff.2 kind
  have check := refusalOf_eq_none.1 taken (isKind r .releasePicture &&
    (s.pics[recSlot r].state = .scanning || (s.pics[recSlot r].state != .empty && s.pics[recSlot r].refs != 0)), 16)
    (by simp [jobChecks])
  simp only [isRelease, Bool.true_and, Bool.or_eq_false_iff, decide_eq_false_iff_not] at check
  exact check.1

/-! #### Dispatch -/

@[simp] theorem scanHeld_drumTake (c : DrumSettings) (rpm now : Nat) (d : Drum) : (drumTake c rpm now d).scanHeld = true := by
  unfold drumTake
  dsimp only
  split <;> rfl

@[simp] theorem scanHeld_lampTake (c : DrumSettings) (now : Nat) (d : Drum) : (lampTake c now d).scanHeld = d.scanHeld := by
  unfold lampTake
  split <;> rfl

@[simp] theorem scanHeld_carriageTake (advance now : Nat) (d : Drum) : (carriageTake advance now d).scanHeld = d.scanHeld := by
  unfold carriageTake
  dsimp only
  split_ifs <;> rfl

/-- R51, R71: the drum holds the scan taken, and the pipeline is STARTING with its picture. -/
theorem outline_takeScan (id : Nat) (k : Fin 16) (rpm advance : Nat) (live : List PortNo) (s : State) :
    outline (takeScan id k rpm advance live s) = (s.pics.map uncounted, .starting, k, true, s.status) := by
  unfold takeScan
  dsimp only
  split <;> simp [outline, pipeTake, homedReport_scan]

theorem keeps_openJobs (n : Nat) (s : State) : Keeps s (openJobs n s) := .of_outline rfl

/-- R24: a SCAN job makes an EMPTY picture the one that is SCANNING. -/
theorem keeps_dispatchScan {h : Hand} (id : Nat) {s : State}
    (alone : ∀ k : Fin 16, s.pics[k].state ≠ .scanning) (lines : 32 ≤ recLines h.record) : Keeps s (dispatchScan h id s) := by
  have rest (live : List PortNo) (x : State) : Keeps x (openJobs live.length
      (live.foldl (fun x p => activate p (jobOf h id p.val (liveFields h.record p) true) true (giveWay p x)) x)) :=
    .after (keeps_openJobs _ _) (.foldl (fun y p => .of_sessionPart ((sessionPart_activate _ _ _ _).trans (sessionPart_giveWay p y))) _ _)
  refine .after (rest (livePorts (recMask h.record)) _) ?_
  obtain ⟨x, isTaken⟩ : ∃ x, x = takeScan id (recSlot h.record) (recRpm h.record) (recAdvance h.record) (livePorts (recMask h.record))
    (modPic (recSlot h.record) (fun _ => scanRecord h.record (livePorts (recMask h.record)).length) s) := ⟨_, rfl⟩
  have taken := isTaken ▸ outline_takeScan _ _ _ _ _ _
  simp only [outline, Prod.mk.injEq] at taken
  obtain ⟨pics, state, pic, held, status⟩ := taken
  have records (j : Fin 16) : uncounted x.pics[j] = uncounted
      (if j = recSlot h.record then scanRecord h.record (livePorts (recMask h.record)).length else s.pics[j]) := by
    have at_j := congrArg (fun v : Vector PictureRecord 16 => v[j]) pics
    simpa only [Fin.getElem_fin, Vector.getElem_map, modPic_get] using at_j
  rw [← isTaken]
  refine ⟨status, fun ordered => (scanOrdered_iff x).2 ⟨fun j => ?_, fun j => ?_, by simp [held, state]⟩⟩
  · refine pictureOk_of_uncounted (records j) ?_
    split
    · exact ⟨Nat.zero_le _, fun _ => rfl, fun _ => Nat.lt_of_lt_of_le (show 0 < 32 by decide) lines, nofun, nofun, nofun, fun isCause => absurd rfl isCause⟩
    · exact ordered.1.1 j
  · rw [state_of_uncounted (records j), state, pic]
    split
    next isK => exact ⟨fun _ => ⟨nofun, isK⟩, fun _ => rfl⟩
    next other => exact ⟨fun scanning => absurd scanning (alone j), fun ⟨_, isK⟩ => absurd isK other⟩

/-- R30: a picture that is not SCANNING becomes EMPTY. -/
theorem keeps_releasePicture {k : Fin 16} {s : State} (idle : s.pics[k].state ≠ .scanning) : Keeps s (releasePicture k s) := by
  have emptied (x : State) (same : x.pics = s.pics) : Keeps x (modPic k (fun _ => {}) x) := by
    refine ⟨rfl, fun ordered => ordered.modPic ?_ ⟨nofun, fun scanning => absurd scanning (by rw [same]; exact idle)⟩⟩
    exact ⟨Nat.le_refl 0, fun _ => rfl, nofun, nofun, nofun, nofun, fun isCause => absurd rfl isCause⟩
  have detached : Keeps s (forPorts (detachTransfer k) s) :=
    .of_sessionPart (sessionPart_forPorts _ (sessionPart_detachTransfer k) s)
  exact .after (keeps_releaseHeldFailure _) (.trans (detached.trans (emptied _ rfl)) (.of_outline rfl))

/-- The Status Writer, told of the picture whose reference a SEND job takes (log 16). -/
def reportSend (k : JobKind) (h : Hand) (s : State) : State :=
  match k with
  | .send => reportPicture (recSlot h.record) s
  | _ => s

theorem keeps_dispatchSend (h : Hand) (id : Nat) (s : State) : Keeps (reportPicture (recSlot h.record) s) (dispatchSend h id s) := by
  have begun (p : PortNo) (j : Job) (x : State) : Keeps x (service p (select p (checkPreempt p j x))) :=
    .of_sessionPart (((sessionPart_service _ _).trans (sessionPart_select _ _)).trans (sessionPart_checkPreempt _ _ _))
  have taken : Keeps (reportPicture (recSlot h.record) s) (takeRef (recSlot h.record) s) :=
    keeps_modPic _ (fun r => { r with refs := r.refs + 1 }) (reportPicture (recSlot h.record) s)
  exact .after (begun _ _ _) (taken.trans (.of_outline rfl))

theorem keeps_abortPort (target : AbortTarget) (s : State) : Keeps s (forPorts (abortPort target) s) :=
  .of_sessionPart (sessionPart_forPorts _ (sessionPart_abortPort target) s)

theorem keeps_dispatchHoldPort (h : Hand) (s : State) : Keeps s (dispatchHoldPort h s) := by
  refine .of_sessionPart ?_
  unfold dispatchHoldPort
  dsimp only
  split_ifs <;> simp only [sessionPart_service, sessionPart_rejudge, sessionPart_withdrawLive, sessionPart_withdrawWaiting,
    sessionPart_modPort]

theorem keeps_dispatchResumePort (h : Hand) (s : State) : Keeps s (dispatchResumePort h s) := by
  refine .of_sessionPart ?_
  unfold dispatchResumePort
  dsimp only
  split_ifs <;> simp only [sessionPart_service, sessionPart_select, sessionPart_checkHead, sessionPart_resumeHeld,
    sessionPart_modPort]

/-- A job that is taken keeps the pictures and the scan in order, and reports the reference of a SEND alone. -/
theorem keeps_dispatch {k : JobKind} {h : Hand} (id : Nat) {s : State} (kind : kindOf h.record = some k)
    (taken : refusalOf s h.record = none) : Keeps (reportSend k h s) (dispatch k h id s) := by
  cases k with
  | scan =>
    obtain ⟨-, alone, lines⟩ := scan_taken kind taken
    exact keeps_dispatchScan id alone lines
  | send => exact keeps_dispatchSend h id s
  | abortJob =>
    show Keeps s (forPorts (abortPort (.id (recTarget h.record))) s)
    exact keeps_abortPort _ s
  | abortPicture =>
    show Keeps s (forPorts (abortPort (.picture (recSlot h.record))) (cutPicture (recSlot h.record) .aborted s))
    exact .after (keeps_abortPort _ _) (keeps_cutPicture _ (by decide) s)
  | releasePicture => exact .ite (fun _ => .refl s) fun _ => keeps_releasePicture (release_taken kind taken)
  | holdPort => exact keeps_dispatchHoldPort h s
  | resumePort => exact keeps_dispatchResumePort h s

theorem keeps_answer (h : Hand) (result : List Byte) (s : State) : Keeps s (answer h result s) :=
  .ite (fun _ => .of_outline rfl) fun _ => .of_outline rfl

/-- R92, R94: a job that is taken gets the next id, is dispatched and answered. -/
theorem judgeJob_taken {k : JobKind} {h : Hand} {s : State} (kind : kindOf h.record = some k) (taken : refusalOf s h.record = none) :
    judgeJob h s = answer h (takenResult (nextJobId s.intake.jobId))
      (dispatch k h (nextJobId s.intake.jobId) { s with intake := { s.intake with jobId := nextJobId s.intake.jobId } }) := by
  simp only [judgeJob, kind, taken]

theorem judgeJob_refused {h : Hand} {s : State} {code : Nat} (refused : refusalOf s h.record = some code) :
    judgeJob h s = answer h (refusedResult code) s := by
  simp only [judgeJob, refused]

/-- R93: a job that is taken has a kind (check 2). -/
theorem kind_of_taken {s : State} {r : List Byte} (taken : refusalOf s r = none) : ∃ k, kindOf r = some k := by
  have check := refusalOf_eq_none.1 taken ((kindOf r).isNone, 2) (by simp [jobChecks])
  exact Option.isSome_iff_exists.1 (by simpa using check)

theorem keeps_judgeJob_taken {k : JobKind} {h : Hand} {s : State} (kind : kindOf h.record = some k)
    (taken : refusalOf s h.record = none) : Keeps (reportSend k h s) (judgeJob h s) := by
  rw [judgeJob_taken kind taken]
  refine .after (keeps_answer _ _ _) (.trans ?_ (keeps_dispatch _ kind taken))
  cases k <;> exact .of_outline rfl

theorem keeps_finishRead (addr : Nat) (s : State) : Keeps s (finishRead addr s) := .of_outline rfl

/-- The picture whose reference the end of the read unit in progress takes: that of a SEND job which is taken then. -/
def sentPicture (s : State) : Option (Fin 16) :=
  match s.unit with
  | some (.jobRead addr) =>
    (readyHand (finishRead addr s)).bind fun h =>
      if refusalOf (finishRead addr s) h.record = none ∧ kindOf h.record = some .send then some (recSlot h.record) else none
  | _ => none

/-- The Status Writer, told of a picture where there is one to tell of. -/
def reportSent (k : Option (Fin 16)) (s : State) : State :=
  match k with
  | some k => reportPicture k s
  | none => s

/-- The end of a read unit with no caption read left judges the job. -/
theorem endJobRead_ready {s : State} {addr : Nat} {h : Hand} (unit : s.unit = some (.jobRead addr))
    (ready : readyHand (finishRead addr s) = some h) : endJobRead s = judgeJob h (finishRead addr s) := by
  simp only [endJobRead, unit, ready]

theorem sentPicture_ready {s : State} {addr : Nat} {h : Hand} (unit : s.unit = some (.jobRead addr))
    (ready : readyHand (finishRead addr s) = some h) : sentPicture s =
      if refusalOf (finishRead addr s) h.record = none ∧ kindOf h.record = some .send then some (recSlot h.record) else none := by
  simp only [sentPicture, unit, ready, Option.bind_some]

/-- What `judgeJob` keeps, and what it reports. -/
theorem keeps_judgeJob (h : Hand) (s : State) : Keeps (reportSent
    (if refusalOf s h.record = none ∧ kindOf h.record = some .send then some (recSlot h.record) else none) s) (judgeJob h s) := by
  cases refused : refusalOf s h.record with
  | some code =>
    rw [judgeJob_refused refused]
    exact keeps_answer _ _ s
  | none =>
    obtain ⟨k, kind⟩ := kind_of_taken refused
    have judged := keeps_judgeJob_taken kind refused
    rw [kind]
    cases k <;> exact judged

theorem keeps_endJobRead (s : State) : Keeps (reportSent (sentPicture s) s) (endJobRead s) := by
  by_cases reads : ∃ addr h, s.unit = some (.jobRead addr) ∧ readyHand (finishRead addr s) = some h
  · obtain ⟨addr, h, unit, ready⟩ := reads
    rw [endJobRead_ready unit ready, sentPicture_ready unit ready]
    refine .trans ?_ (keeps_judgeJob h _)
    split <;> exact .of_outline rfl
  · by_cases reading : ∃ addr, s.unit = some (.jobRead addr)
    · obtain ⟨addr, unit⟩ := reading
      have waits : readyHand (finishRead addr s) = none :=
        Option.eq_none_iff_forall_ne_some.2 fun h ready => reads ⟨addr, h, unit, ready⟩
      simp only [endJobRead, sentPicture, unit, waits, Option.bind_none]
      exact keeps_finishRead addr s
    · have none : sentPicture s = none := by
        unfold sentPicture
        split
        next addr unit => exact absurd ⟨addr, unit⟩ reading
        next => rfl
      rw [none]
      unfold endJobRead
      split
      next addr unit => exact absurd ⟨addr, unit⟩ reading
      next => exact .refl s

/-- Log 8: the row of a kind is the end of the read unit of a taken job of that kind, or no event. -/
theorem takenJob_cases (k : JobKind) (s : State) : takenJob k s = s ∨ ∃ addr h, s.unit = some (.jobRead addr) ∧
    readyHand (finishRead addr s) = some h ∧ kindOf h.record = some k ∧ refusalOf (finishRead addr s) h.record = none ∧
    takenJob k s = judgeJob h (finishRead addr s) := by
  unfold takenJob
  split
  next addr unit =>
    dsimp only
    split
    next h ready =>
      split
      next taken => exact .inr ⟨addr, h, unit, ready, taken.1, taken.2, rfl⟩
      next => exact .inl rfl
    next => exact .inl rfl
  next => exact .inl rfl

theorem keeps_takenJob {k : JobKind} (other : k ≠ .send) (s : State) : Keeps s (takenJob k s) := by
  obtain same | ⟨addr, h, -, -, kind, taken, judged⟩ := takenJob_cases k s
  · rw [same]
    exact .refl s
  · rw [judged]
    refine (keeps_finishRead addr s).trans ?_
    have keeps := keeps_judgeJob_taken kind taken
    cases k with
    | send => exact absurd rfl other
    | _ => exact keeps

theorem ScanOrdered.takenSend {s : State} (ordered : ScanOrdered s) : ScanOrdered (takenJob .send s) := by
  obtain same | ⟨addr, h, -, -, kind, taken, judged⟩ := takenJob_cases .send s
  · rwa [same]
  · rw [judged]
    exact (keeps_judgeJob_taken kind taken).order (ordered.congr rfl rfl rfl)

theorem ScanOrdered.endJobRead {s : State} (ordered : ScanOrdered s) : ScanOrdered (endJobRead s) := by
  refine (keeps_endJobRead s).order ?_
  cases sentPicture s <;> exact ordered.congr rfl rfl rfl

theorem keeps_readerTake (s : State) : Keeps s (readerTake s) := by
  unfold readerTake
  split
  · exact .ite (fun _ => .of_outline rfl) fun _ => .refl s
  · exact .refl s

theorem keeps_endResultWrite (s : State) : Keeps s (endResultWrite s) := by
  unfold endResultWrite
  split <;> exact .of_outline rfl

/-! ### Every command -/

/-- The commands that write the Status Writer's flags besides by a change of a record: the grant, the end of a setup part read, and the
end of a read unit that may take a SEND job. -/
def writesFlags : Instr → Bool
  | .arbiterGrant _ | .setupPartReadEnd _ | .send _ | .jobRecordReadEnd _ => true
  | _ => false

theorem keeps_effectOf {c : Instr} (plain : writesFlags c = false) (s : State) : Keeps s (effectOf c s) := by
  cases c with
  | arbiterGrant | setupPartReadEnd | send | jobRecordReadEnd => exact absurd plain (by simp [writesFlags])
  | powerOn | warmReset | resetRelease | deskAccess | deskClockSecond | reportDiscarded => exact .refl s
  | deskWrite | deskRead => exact keeps_endForward (fun _ x => .refl x) s
  | postWordWrite t =>
    rw [effectOf]
    refine keeps_endForward (fun e x => ?_) s
    cases e with
    | post j => exact keeps_postSlot j x
    | _ => exact .refl x
  | markWordWrite t =>
    rw [effectOf]
    refine keeps_endForward (fun e x => ?_) s
    cases e with
    | mark i => exact keeps_takeSlot i x
    | _ => exact .refl x
  | loadWordWrite t => exact keeps_endForward (fun _ x => keeps_startLoad x) s
  | clearWordWrite t =>
    rw [effectOf]
    refine keeps_endForward (fun e x => ?_) s
    cases e with
    | clear cs => exact .of_outline rfl
    | _ => exact .refl x
  | checkUpkeepUnitEnd t composed => exact keeps_endUpkeep composed s
  | scanLineWriteEnd t => exact keeps_endScanLine s
  | lineFetchEnd t => exact keeps_endLineFetch s
  | trailerFlagUnitEnd t => exact keeps_endTrailerFlag s
  | slipRecordWriteEnd t => exact keeps_endSlipWrite s
  | statusRecordWriteEnd t => exact keeps_endStatusWrite s
  | intakeReaderTake t => exact keeps_readerTake s
  | scan | abortJob | abortPicture | releasePicture | holdPort | resumePort => exact keeps_takenJob (by decide) s
  | resultWordWriteEnd t => exact keeps_endResultWrite s
  | loadResultWriteEnd t => exact keeps_endLoadResult s
  | tachPulse t => exact keeps_tachPulse s
  | indexPulse t => exact .ite (fun _ => keeps_indexPulse s) fun _ => .refl s
  | conversionRequest t => exact keeps_conversionRequest s.now s
  | codeReady t code => exact keeps_codeReady code s
  | stallTimerExpiry | spinUpTimerExpiry | slipTimerExpiry | homingLimitExpiry =>
    exact .ite (fun _ => keeps_drumFault _ s) fun _ => .refl s
  | idleSpinTimerExpiry t => exact .ite (fun _ => keeps_modDrum (scanHeld_enterStopping _ _)) fun _ => .refl s
  | coastTimerExpiry t => exact .ite (fun _ => keeps_modDrum (scanHeld_enterStopped _)) fun _ => .refl s
  | coverOpen t => exact keeps_openCover s
  | coverClose t => exact keeps_modDrum (f := fun d => { d with coverOpen := false }) rfl
  | homeSwitchOpen t => exact keeps_modDrum (f := fun d => { d with homeClosed := false }) rfl
  | settleTimerExpiry t => exact keeps_settleLamp s
  | homingStep t => exact keeps_modDrum (scanHeld_homingStep _ _)
  | carriageStep t => exact keeps_modDrum (scanHeld_carriageStep _ _)
  | homeSwitchClose t => exact keeps_closeHome s
  | startLimitTimerExpiry t => exact keeps_startLimitExpiry s
  | frameTransferEnd t p => exact .of_sessionPart (sessionPart_frameEnd p s)
  | up t p => exact .of_sessionPart (sessionPart_takeUp p s)
  | fail t p cause => exact .of_sessionPart (sessionPart_takeFail p cause s)
  | doneItem t p => exact .of_sessionPart (sessionPart_takeDoneItem p s)
  | doneFlush t p => exact .of_sessionPart (sessionPart_takeDoneFlush p s)
  | slack t p => exact .of_sessionPart (sessionPart_takeSlack p s)
  | heard t p code duration data => exact .of_sessionPart (sessionPart_takeHeard p code duration.toNat data s)
  | ready t p | phased t p | goodA t p | goodB t p | again t p | wait t p | receipt t p | hang t p =>
    exact .of_sessionPart (sessionPart_hearSignal p _ _ s)
  | dropCarrier t p => exact .of_sessionPart (sessionPart_takeDropCarrier p s)
  | dropOnHook t p => exact .of_sessionPart (sessionPart_takeDropOnHook p s)
  | releaseTimerExpiry t p => exact .of_sessionPart (sessionPart_releaseExpiry p s)
  | seizeTimerExpiry t p => exact .of_sessionPart (sessionPart_expire .seize (fun p => endSession p .lineFailed 0) p s (sessionPart_endSession p _ _))
  | readyTimerExpiry t p => exact .of_sessionPart (sessionPart_expire .ready (fun p => endSession p .noAnswer 0) p s (sessionPart_endSession p _ _))
  | phasedTimerExpiry t p => exact .of_sessionPart (sessionPart_expire .phased phasedExpiry p s (sessionPart_phasedExpiry p))
  | verdictTimerExpiry t p => exact .of_sessionPart (sessionPart_expire .verdict verdictExpiry p s (sessionPart_verdictExpiry p))
  | waitTimerExpiry t p => exact .of_sessionPart (sessionPart_expire .wait waitExpiry p s (sessionPart_waitExpiry p))
  | quietTimerExpiry t p => exact .of_sessionPart (sessionPart_expire .quiet bandStart p s (sessionPart_bandStart p))
  | receiptTimerExpiry t p => exact .of_sessionPart (sessionPart_expire .receipt (fun p => endClose p false) p s (sessionPart_endClose p _))

theorem ScanOrdered.effectOf {s : State} (ordered : ScanOrdered s) (c : Instr) : ScanOrdered (effectOf c s) := by
  cases writes : writesFlags c with
  | false => exact (keeps_effectOf writes s).order ordered
  | true =>
    cases c with
    | arbiterGrant t => exact ordered.arbitrate
    | setupPartReadEnd t => exact ordered.endSetupPart
    | send t => exact ordered.takenSend
    | jobRecordReadEnd t => exact ordered.endJobRead
    | _ => exact absurd writes Bool.false_ne_true

theorem scanOrdered_reset : ScanOrdered State.reset := by
  obtain ⟨-, -, pictures, scan, -⟩ := resetSatisfiesTheInvariants
  exact ⟨pictures, scan⟩

theorem ScanOrdered.noteChanges {b : State} (ordered : ScanOrdered b) (a : State) : ScanOrdered (noteChanges a b) :=
  ordered.congr (noteChanges_pics a b) (noteChanges_pipe a b) (noteChanges_drum a b)

/-- Every command keeps the pictures and the scan in order. -/
theorem ScanOrdered.exec {s s' : State} {c : Instr} (ordered : ScanOrdered s) (next : exec c s = .next s') : ScanOrdered s' := by
  have advanced (t : Nat) : ScanOrdered (advance t s) := ordered.congr rfl rfl rfl
  cases wraps : unwrapped c with
  | false =>
    rw [exec_effectOf c s wraps, act] at next
    cases next
    split
    · exact advanced _
    · exact ((advanced _).effectOf c).noteChanges _
  | true =>
    cases c with
    | powerOn t =>
      cases next
      exact scanOrdered_reset.congr rfl rfl rfl
    | warmReset t made =>
      cases next
      split
      · exact advanced t
      · exact scanOrdered_reset.congr rfl rfl rfl
    | resetRelease t straps coverOpen homeClosed =>
      cases next
      split
      · exact (keeps_modDrum (f := fun d => { d with coverOpen := coverOpen, homeClosed := homeClosed }) rfl).order (advanced t)
      · exact advanced t
    | deskAccess t a =>
      cases next
      split <;> exact ordered.congr rfl rfl rfl
    | deskClockSecond t =>
      cases next
      split
      · exact (keeps_clockSecond _).order (advanced t)
      · exact ((keeps_clockSecond _).order (advanced t)).noteChanges _
    | _ => exact absurd wraps Bool.false_ne_true

/-- Settles O57: the invariant goes from the state a command finds to the state it leaves; on an empty queue nothing happens. -/
theorem picturesAndScanStayInOrder : Obligations.PicturesAndScanStayInOrder := by
  intro s s' pictures scan next
  have ordered : ScanOrdered s := ⟨pictures, scan⟩
  show ScanOrdered s'
  unfold step at next
  split at next
  · cases next
    exact ordered
  next rest _ =>
    have popped : ScanOrdered { s with pending := rest } := ordered.congr rfl rfl rfl
    exact popped.exec next

end Sys2Proof.Machine
end

section
/-! PROOFS. Which records a command flags, the attention output and the LAMP output (O3). -/

namespace Sys2Proof.Machine

/-! ### What a status record is compared by -/

theorem comparedBytes_status (w : StatusWriter) (s : State) (i : Nat) :
    comparedBytes { s with status := w } i = comparedBytes s i := rfl

theorem comparedBytes_noteChanges (a b : State) (i : Nat) : comparedBytes (noteChanges a b) i = comparedBytes b i := by
  unfold noteChanges
  exact comparedBytes_status _ b i

theorem comparedBytes_advance (t : Nat) (s : State) (i : Nat) : comparedBytes (advance t s) i = comparedBytes s i := rfl

/-- R173: a record is flagged where the event flagged it or its contents have changed. -/
theorem flagged_noteChanges (t : Nat) (s b : State) (i : Fin 27) : (noteChanges (advance t s) b).status.changed[i] = true ↔
    b.status.changed[i] = true ∨ comparedBytes s i.val ≠ comparedBytes (noteChanges (advance t s) b) i.val := by
  rw [comparedBytes_noteChanges, ← comparedBytes_advance t s, Fin.getElem_fin, noteChanges_changed]
  simp

/-! ### The reference of a SEND job -/

theorem kindOf_eq_send {r : List Byte} : kindOf r = some .send ↔ byteAt r 8 = 2 := by
  unfold kindOf
  split <;> simp_all

/-- The picture whose reference the end of the read unit takes is that of a SEND job which is ready and taken. -/
theorem sentPicture_eq_some {s : State} {k : Fin 16} : sentPicture s = some k ↔ ∃ addr h, s.unit = some (.jobRead addr) ∧
    readyHand (finishRead addr s) = some h ∧ refusalOf (finishRead addr s) h.record = none ∧ kindOf h.record = some .send ∧
    recSlot h.record = k := by
  refine ⟨fun sent => ?_, fun ⟨addr, h, unit, ready, taken, kind, slot⟩ => ?_⟩
  · unfold sentPicture at sent
    split at sent
    next addr unit =>
      obtain ⟨h, ready, slot⟩ := Option.bind_eq_some_iff.1 sent
      split at slot
      next takes => exact ⟨addr, h, unit, ready, takes.1, takes.2, Option.some.inj slot⟩
      next => exact absurd slot (by simp)
    next => exact absurd sent (by simp)
  · rw [sentPicture_ready unit ready, if_pos ⟨taken, kind⟩, slot]

theorem status_takenSend (s : State) : (takenJob .send s).status = (reportSent (sentPicture s) s).status := by
  cases sent : sentPicture s with
  | some k =>
    obtain ⟨addr, h, unit, ready, taken, kind, slot⟩ := sentPicture_eq_some.1 sent
    have judged : takenJob .send s = judgeJob h (finishRead addr s) := by
      simp only [takenJob, unit, ready, kind, taken, and_self, if_true]
    rw [judged, (keeps_judgeJob_taken kind taken).status, ← slot]
    rfl
  | none =>
    obtain same | ⟨addr, h, unit, ready, kind, taken, -⟩ := takenJob_cases .send s
    · rw [same]
      rfl
    · exact absurd (sentPicture_eq_some.2 ⟨addr, h, unit, ready, taken, kind, rfl⟩) (by simp [sent])

theorem flagged_reportSent (k : Option (Fin 16)) (s : State) (i : Fin 27) : (reportSent k s).status.changed[i] = true ↔
    s.status.changed[i] = true ∨ ∃ j, k = some j ∧ i.val = 4 + j.val := by
  cases k with
  | none => simp [reportSent]
  | some j => 
    simp only [reportSent, reportPicture, Fin.getElem_fin, Vector.getElem_set, Option.some.injEq, exists_eq_left']
    split
    next h => simp [h]
    next h => simp [Ne.symm h]

/-- A command that takes no reference flags the records whose contents it changes. -/
theorem flagged_plain {t : Nat} {s b : State} (same : b.status = s.status) (i : Fin 27) :
    (noteChanges (advance t s) b).status.changed[i] = true ↔
      s.status.changed[i] = true ∨ comparedBytes s i.val ≠ comparedBytes (noteChanges (advance t s) b) i.val := by
  rw [flagged_noteChanges, same]

theorem flagged_sent {t : Nat} {s b : State} (same : b.status = (reportSent (sentPicture (advance t s)) (advance t s)).status)
    (i : Fin 27) : (noteChanges (advance t s) b).status.changed[i] = true ↔
      s.status.changed[i] = true ∨ comparedBytes s i.val ≠ comparedBytes (noteChanges (advance t s) b) i.val ∨
      ∃ addr h, s.unit = some (.jobRead addr) ∧ readyHand (finishRead addr (advance t s)) = some h ∧
        refusalOf (finishRead addr (advance t s)) h.record = none ∧ byteAt h.record 8 = 2 ∧ i.val = 4 + (recSlot h.record).val := by
  rw [flagged_noteChanges, same, flagged_reportSent, or_right_comm, or_assoc]
  refine or_congr_right (or_congr_right ?_)
  simp only [sentPicture_eq_some, kindOf_eq_send]
  constructor
  · rintro ⟨_, ⟨addr, h, unit, ready, taken, kind, rfl⟩, slot⟩
    exact ⟨addr, h, unit, ready, taken, kind, slot⟩
  · rintro ⟨addr, h, unit, ready, taken, kind, slot⟩
    exact ⟨_, ⟨addr, h, unit, ready, taken, kind, rfl⟩, slot⟩

/-! ### The attention output -/

theorem pendingClasses_bit (n : Notices) (c : Fin 9) :
    (pendingClasses n).getLsbD c.val = true ↔ n.flags[c] = true ∧ n.enables[c] = true := by
  simp [pendingClasses]

theorem lowestPending_eq_some (n : Notices) (c : Fin 9) : lowestPending n = some c.val ↔
    (pendingClasses n).getLsbD c.val = true ∧ ∀ d < c, ¬(pendingClasses n).getLsbD d.val = true := by
  rw [lowestPending, List.find?_range_eq_some]
  simp only [List.mem_range, c.isLt, true_and]
  refine and_congr_right fun _ => ⟨fun least d below => by simpa using least d below, fun least d below => ?_⟩
  simpa using least ⟨d, below.trans c.isLt⟩ below

theorem attention_iff (n : Notices) : attention n = true ↔ ∃ c : Fin 9, (pendingClasses n).getLsbD c.val = true := by
  rw [attention, bne_iff_ne, ne_eq, ← not_forall_not, not_iff_not]
  refine ⟨fun none c => by simp [none], fun none => BitVec.eq_of_getLsbD_eq fun i below => ?_⟩
  simpa using none ⟨i, below⟩

theorem lowestPending_eq_none (n : Notices) : lowestPending n = none ↔ attention n = false := by
  rw [← Bool.not_eq_true, attention_iff, not_exists, lowestPending, List.find?_eq_none]
  simp only [List.mem_range]
  exact ⟨fun none c => none c.val c.isLt, fun none c below => none ⟨c, below⟩⟩

theorem lampOn_iff (d : Drum) : lampOn d = true ↔ d.lamp = .warming ∨ d.lamp = .ready := by simp [lampOn]

/-- Settles O3: `noteChanges` flags what has changed; no effect writes a flag itself but the taking of a SEND job. -/
theorem changedRecordsAreFlagged : Obligations.ChangedRecordsAreFlagged := by
  refine ⟨?flags, fun n => ?attention, lampOn_iff⟩
  case flags =>
    intro c s s' running next notPowerOn notWarm notGrant notSetup sent i
    have noSend (other : ∀ t, c ≠ .send t ∧ c ≠ .jobRecordReadEnd t) : ¬sent i :=
      fun ⟨t, _, _, isSend, _⟩ => isSend.elim (other t).1 (other t).2
    cases wraps : unwrapped c with
    | false =>
      rw [exec_effectOf c s wraps, act_running _ _ _ running] at next
      cases next
      cases writes : writesFlags c with
      | false =>
        rw [or_iff_left (noSend fun t => ⟨?_, ?_⟩)]
        · exact flagged_plain (t := timeOf c) (keeps_effectOf writes _).status i
        · rintro rfl
          exact absurd writes (by simp [writesFlags])
        · rintro rfl
          exact absurd writes (by simp [writesFlags])
      | true =>
        cases c with
        | send t =>
          refine (flagged_sent (t := t) (status_takenSend _) i).trans (or_congr_right (or_congr_right
            ⟨fun ⟨addr, h, taken⟩ => ⟨t, addr, h, .inl rfl, taken⟩, ?_⟩))
          rintro ⟨_, addr, h, same | same, taken⟩ <;> cases same
          exact ⟨addr, h, taken⟩
        | jobRecordReadEnd t =>
          refine (flagged_sent (t := t) ((keeps_endJobRead _).status) i).trans (or_congr_right (or_congr_right
            ⟨fun ⟨addr, h, taken⟩ => ⟨t, addr, h, .inr rfl, taken⟩, ?_⟩))
          rintro ⟨_, addr, h, same | same, taken⟩ <;> cases same
          exact ⟨addr, h, taken⟩
        | arbiterGrant t => exact absurd rfl (notGrant t)
        | setupPartReadEnd t => exact absurd rfl (notSetup t)
        | _ => exact absurd writes Bool.false_ne_true
    | true =>
      rw [or_iff_left (noSend fun t => ⟨fun isSend => by simp [isSend, unwrapped] at wraps,
        fun isRead => by simp [isRead, unwrapped] at wraps⟩)]
      cases c with
      | powerOn t => exact absurd rfl (notPowerOn t)
      | warmReset t made => exact absurd rfl (notWarm t made)
      | resetRelease t straps coverOpen homeClosed =>
        have released : s' = advance t s := by
          cases next
          rw [if_neg (by simp [running])]
        rw [released, comparedBytes_advance]
        simp
      | deskAccess t a =>
        have unflagged : s'.status = s.status ∧ comparedBytes s' i.val = comparedBytes s i.val := by
          cases next
          split <;> exact ⟨rfl, rfl⟩
        rw [unflagged.1, unflagged.2]
        simp
      | deskClockSecond t =>
        have noted : s' = noteChanges (advance t s) (clockSecond (advance t s)) := by
          cases next
          rw [if_neg (by simp [running])]
        rw [noted]
        exact flagged_plain (t := t) (keeps_clockSecond _).status i
      | _ => exact absurd wraps Bool.false_ne_true
  case attention =>
    intro pending
    have bit : ∀ c, (pendingClasses n).getLsbD c.val = true ↔ pending c := pendingClasses_bit n
    simp only [← bit]
    exact ⟨attention_iff n, lowestPending_eq_none n, lowestPending_eq_some n⟩

end Sys2Proof.Machine
end

section
/-! PROOFS. The end of a scan line write (O18), and the jobs of each kind that is taken (O38). -/

namespace Sys2Proof.Machine

/-! ### The end of a scan line write -/

theorem endScanLine_eq {s : State} {b : Fin 2} {la : Nat} {e : LineEntry} (unit : s.unit = some (.scanLine b la))
    (full : s.pipe.buffers[b] = some e) : endScanLine s = freeBuffer b
      (if advancesMark (endUnit (.scanLine b la) s) e then advanceMark e (endUnit (.scanLine b la) s) else endUnit (.scanLine b la) s) := by
  simp only [endScanLine, unit, full]

theorem unitAccesses_scanLine {s : State} {b : Fin 2} {la : Nat} {e : LineEntry} (full : s.pipe.buffers[b] = some e) :
    unitAccesses s (.scanLine b la) = scanLineAccesses e la := by
  simp only [unitAccesses, full]

theorem advancesMark_iff (s : State) (e : LineEntry) : advancesMark s e = true ↔
    s.pipe.scanId = some e.scanId ∧ s.pics[e.pic].state = .scanning ∧ s.pics[e.pic].mark = e.line := by
  simp [advancesMark, and_assoc]

/-- What the ports are told of line leaves each picture's record alone but for its counters. -/
theorem uncounted_told (e : LineEntry) (s : State) (k : Fin 16) :
    uncounted (forPorts (lineReady e.pic e.line e.lineTime) (installLine e.pic e.line e.bytes s)).pics[k] = uncounted s.pics[k] :=
  uncounted_of_outline (outline_of_sessionPart (sessionPart_told e s)) k

/-- Settles O18: the unit ends, and then the mark advances or it does not; at L the scan ends. -/
theorem scanLineWritesEnd : Obligations.ScanLineWritesEnd := by
  refine ⟨fun t s b la e running unit full stays => ?_, fun t s b la e running unit full scan scanning mark => ?_⟩
  · intro a
    have stays' : ¬advancesMark (endUnit (.scanLine b la) a) e = true := (advancesMark_iff _ e).not.2 stays
    rw [show exec (.scanLineWriteEnd t) s = _ from act_running t endScanLine s running, endScanLine_eq (s := a) unit full,
      if_neg stays']
    simp only [freeBuffer, endUnit, unitAccesses_scanLine (s := a) full]
    rfl
  · intro a k x free
    have advances : advancesMark (endUnit (.scanLine b la) a) e = true := (advancesMark_iff _ e).2 ⟨scan, scanning, mark⟩
    have isTold : x = forPorts (lineReady k e.line e.lineTime) (installLine k e.line e.bytes
        (modPic k (markAdvanced e) (endUnit (.scanLine b la) a))) := by
      simp only [endUnit, unitAccesses_scanLine (s := a) full]
      rfl
    clear_value x
    have record := uncounted_told e (modPic k (markAdvanced e) (endUnit (.scanLine b la) a)) k
    rw [← isTold, Fin.getElem_fin, Fin.getElem_fin, modPic_same] at record
    obtain ⟨-, mark', lines, -⟩ : _ ∧ x.pics[k].mark = e.line + 1 ∧ x.pics[k].lines = s.pics[k].lines ∧ _ := fields_of_uncounted record
    have ends : exec (.scanLineWriteEnd t) s = .next (noteChanges a (freeBuffer b (completePicture k x))) := by
      rw [show exec (.scanLineWriteEnd t) s = _ from act_running t endScanLine s running, endScanLine_eq (s := a) unit full,
        if_pos advances, isTold]
      rfl
    have freed (y : State) : freeBuffer b y = free y := rfl
    rw [freed] at ends
    refine ⟨mark', lines, fun more => ?_, fun last => ?_⟩
    · rw [ends, completePicture, if_neg (by rwa [mark', lines])]
    · rw [ends, completePicture, if_pos (by rwa [mark', lines])]
      rfl

/-! ### The jobs that are taken -/

/-- Log 8: the end of the read unit of a taken job, and the row of its kind, judge the job. -/
theorem endJobRead_taken {k : JobKind} {s : State} {addr : Nat} {h : Hand} (unit : s.unit = some (.jobRead addr))
    (ready : readyHand (finishRead addr s) = some h) (kind : kindOf h.record = some k)
    (taken : refusalOf (finishRead addr s) h.record = none) :
    takenJob k s = judgeJob h (finishRead addr s) ∧ endJobRead s = takenJob k s := by
  have judged : takenJob k s = judgeJob h (finishRead addr s) := by
    simp only [takenJob, unit, ready, kind, taken, and_self, if_true]
  exact ⟨judged, (endJobRead_ready unit ready).trans judged.symm⟩

/-- Settles O38: the row of each kind is `takenJob` of that kind, which gives the next id, dispatches the job and answers it. -/
theorem jobsAreTaken : Obligations.JobsAreTaken := by
  intro t s addr h running unit a x ready taken id y isTaken
  have judged {k : JobKind} {i : Instr} {z : State} (kind : kindOf h.record = some k) (row : exec i s = act t (takenJob k) s)
      (effect : dispatch k h id y = z) : isTaken i z := by
    obtain ⟨judges, same⟩ := endJobRead_taken (s := a) unit ready kind taken
    rw [← effect]
    refine ⟨?_, ?_⟩
    · rw [row, act_running t _ s running, judges, judgeJob_taken kind taken]
      rfl
    · rw [row, act_running t _ s running, ← same]
      exact act_running t endJobRead s running
  exact ⟨fun code => judged (by simp only [kindOf, code]) rfl rfl, fun code => judged (by simp only [kindOf, code]) rfl rfl,
    fun code => judged (by simp only [kindOf, code]) rfl rfl, fun code => judged (by simp only [kindOf, code]) rfl rfl,
    fun code => judged (by simp only [kindOf, code]) rfl rfl, fun code => judged (by simp only [kindOf, code]) rfl rfl,
    fun code => judged (by simp only [kindOf, code]) rfl rfl⟩

end Sys2Proof.Machine
end

section
/-! PROOFS. What an abort takes out of a port, and the cut of a picture (O41). -/

namespace Sys2Proof.Machine

/-! ### Two changes of one port -/

theorem modPort_modPort (p : PortNo) (f g : Port → Port) (s : State) : modPort p f (modPort p g s) = modPort p (fun q => f (g q)) s := by
  simp [modPort]

/-! ### Aborts -/

theorem findActive_eq {target : AbortTarget} {q : Port} {b : ActiveJob} (active : q.active = some b) : findActive target q =
    if aims target b.job = true ∧ (b.begun = false ∨ q.session.outcome = none) then some b else none := by
  simp only [findActive, active]

theorem abortActive_unfound {target : AbortTarget} {p : PortNo} {s : State} (h : findActive target s.ports[p] = none) :
    abortActive target p s = s := by
  simp only [abortActive, h]

/-- R107: an active job whose session waits to begin is composed ABORTED-UNSENT. -/
theorem abortActive_waiting {target : AbortTarget} {p : PortNo} {s : State} {b : ActiveJob}
    (found : findActive target s.ports[p] = some b) (waits : b.begun = false) : abortActive target p s =
    compose (slipOfJob s p b.job) (modPipe (reportWithdrawn p) (modPort p (fun q => { q with active := none, preempt := false }) s)) := by
  simp only [abortActive, found, waits, if_true, modPort_modPort]
  rfl

theorem abortActive_leaving {target : AbortTarget} {p : PortNo} {s : State} {b : ActiveJob}
    (found : findActive target s.ports[p] = some b) (begun : b.begun = true)
    (leaving : s.ports[p].session.state = .parting ∨ s.ports[p].session.state = .releasing) : abortActive target p s =
    modPort p (fun q => { q with preempt := false, session := { q.session with outcome := some { outcome := .aborted } } }) s := by
  simp only [abortActive, found]
  rw [if_neg (by simp [begun]), if_pos (by simpa using leaving), modSession, modPort_modPort]

theorem abortActive_ends {target : AbortTarget} {p : PortNo} {s : State} {b : ActiveJob}
    (found : findActive target s.ports[p] = some b) (begun : b.begun = true)
    (stays : ¬(s.ports[p].session.state = .parting ∨ s.ports[p].session.state = .releasing)) : abortActive target p s =
    endSession p .aborted 0 (modPort p (fun q => { q with preempt := false }) s) := by
  simp only [abortActive, found]
  rw [if_neg (by simp [begun]), if_neg (by simpa using stays)]

/-- Settles O41: each operation of an abort, by what it finds on the port. -/
theorem abortsTakeJobsOut : Obligations.AbortsTakeJobsOut := by
  refine ⟨fun s p target => ?port, fun s k cause => ⟨fun idle => if_neg idle, fun scanning => if_pos scanning⟩⟩
  case port =>
    intro q named port
    have isNamed : aims target = named := by
      funext j
      cases target <;> rfl
    refine ⟨rfl, ?_, ?_, fun b active => ?_, fun idle => ?_⟩
    · simp only [abortQueued, isNamed]
      rfl
    · simp only [abortContexts, isNamed]
      rfl
    · intro found
      have finds : findActive target s.ports[p] = if found then some b else none := by rw [findActive_eq active, isNamed]
      refine ⟨fun not => abortActive_unfound (by rw [finds, if_neg not]), fun is waits => ?_, fun is begun leaving => ?_,
        fun is begun stays => ?_⟩
      · exact abortActive_waiting (finds.trans (if_pos is)) waits
      · exact abortActive_leaving (finds.trans (if_pos is)) begun (by simpa only [List.mem_cons, List.not_mem_nil, or_false] using leaving)
      · exact abortActive_ends (finds.trans (if_pos is)) begun (by simpa only [List.mem_cons, List.not_mem_nil, or_false] using stays)
    · refine abortActive_unfound ?_
      unfold findActive
      rw [idle]

end Sys2Proof.Machine
end

section
/-! PROOFS. RELEASE-PICTURE, HOLD-PORT and RESUME-PORT (O42). -/

namespace Sys2Proof.Machine

/-! ### The release of a picture -/

theorem detachFrame_eq (k : Fin 16) (f : Frame) : detachFrame k f = match f with
    | .picture pic line tones time bytes => .picture (if pic = some k then none else pic) line tones time bytes
    | f => f := by
  cases f with
  | picture pic line tones time bytes =>
    simp only [detachFrame]
    split <;> rfl
  | _ => rfl

/-- One operation on every port. -/
theorem forPorts_same {f : PortNo → State → State} {g : Port → Port} (h : ∀ p x, f p x = modPort p g x) (s : State) :
    forPorts f s = { s with ports := s.ports.map g } := by
  have ports : (Vector.ofFn fun p : PortNo => g s.ports[p]) = s.ports.map g := by
    ext i below
    simp
  rw [forPorts_modPort (g := fun _ => g) fun p x _ => h p x, ports]

/-- R47, R118, log 42: every port's frame in transfer is told. -/
theorem forPorts_detachTransfer (k : Fin 16) (s : State) : forPorts (detachTransfer k) s = { s with ports := s.ports.map fun v =>
    { v with link := { v.link with transfer := v.link.transfer.map fun x => { x with frame := detachFrame k x.frame } } } } :=
  forPorts_same (fun _ _ => rfl) s

/-- R42: the failure held back for a released picture goes. -/
theorem releaseStaged_eq (k : Fin 16) (x : LineStore) : releaseStaged k x =
    { mapWays (fun w => if w.state = .valid ∧ w.pic = k then { w with state := .invalid, pins := Vector.replicate 4 false } else w) x with
      heldFailure := if x.heldFailure.any fun f => f.pic = k then none else x.heldFailure } := by
  unfold releaseStaged
  cases held : x.heldFailure with
  | none => simp [mapWays, held, noPins]
  | some f => simp [mapWays, held, noPins]

/-- R44: a failure held back joins the list where it has room. -/
theorem releaseHeldFailure_waits {s : State} (h : s.store.heldFailure = none ∨ 8 ≤ s.trailers.length) : releaseHeldFailure s = s := by
  unfold releaseHeldFailure
  split
  next f held =>
    have full : 8 ≤ s.trailers.length := h.resolve_left (by simp [held])
    rw [if_neg (by simpa [trailerListMax] using full)]
  next => rfl

theorem releaseHeldFailure_joins {s : State} {f : LineFailure} (held : s.store.heldFailure = some f) (room : s.trailers.length < 8) :
    releaseHeldFailure s = { s with
      store := { s.store with heldFailure := none }
      trailers := if ∃ g ∈ s.trailers, g.trailer = f.trailer then s.trailers else s.trailers ++ [f] } := by
  simp only [releaseHeldFailure, held, trailerListMax, room, if_true, joinTrailers, modStore_trailers, List.any_eq_true,
    decide_eq_true_eq]
  split <;> rfl

theorem releasePicture_eq (k : Fin 16) (s : State) : releasePicture k s = releaseHeldFailure { s with
    pics := s.pics.set k {}, store := releaseStaged k s.store, unit := dropFetch k s.unit
    trailers := s.trailers.filter fun f => f.pic ≠ k
    ports := s.ports.map fun v =>
      { v with link := { v.link with transfer := v.link.transfer.map fun x => { x with frame := detachFrame k x.frame } } } } := by
  unfold releasePicture
  dsimp only
  rw [forPorts_detachTransfer]
  rfl

/-! ### Hold and resume -/

theorem withdrawWaiting_eq (p : PortNo) (s : State) : withdrawWaiting p s = { s with
    pipe := if s.ports[p].active.any fun a => !a.begun then reportWithdrawn p s.pipe else s.pipe } := by
  unfold withdrawWaiting
  split <;> rfl

/-- R72, R150: a candidate ceases to be one, and WITHDRAWN is reported. -/
theorem withdrawLive_candidate {p : PortNo} {s : State} (candidate : s.ports[p].session.live = .candidate) :
    withdrawLive p true s = modPipe (reportWithdrawn p) (modSession p (fun x => { x with live := .none }) s) := by
  simp only [withdrawLive, candidate, if_true]

theorem withdrawWaiting_ports (p : PortNo) (s : State) : (withdrawWaiting p s).ports = s.ports := by
  rw [withdrawWaiting_eq]

/-- R105, R136: a candidate that is withdrawn judges its band where it stands by. -/
theorem rejudge_withdrawn {p : PortNo} {s : State} (candidate : s.ports[p].session.live = .candidate) :
    rejudge p (withdrawLive p true (withdrawWaiting p s)) =
      if s.ports[p].session.state = .standby then
        bandStart p (modPipe (reportWithdrawn p) (modSession p (fun x => { x with live := .none }) s))
      else modPipe (reportWithdrawn p) (modSession p (fun x => { x with live := .none }) s) := by
  have withdrawn : withdrawLive p true (withdrawWaiting p s) =
      modPipe (reportWithdrawn p) (modSession p (fun x => { x with live := .none }) s) := by
    rw [withdrawLive_candidate (by rwa [withdrawWaiting_ports])]
    unfold withdrawWaiting
    split
    · simp only [modPipe, modSession, modPort, reportWithdrawn_twice]
    · rfl
  rw [withdrawn, rejudge]
  simp

theorem queue_bandStart (p : PortNo) (s : State) : (bandStart p s).ports[p].queue = s.ports[p].queue := by
  unfold bandStart
  split
  · split <;> simp [closeSession, wish, enterState, beginPass, modSession]
  · rfl

/-- Settles O42: what a release takes away, one part after the other, and a hold and a resume by what they find on the port. -/
theorem portAndPictureJobsAreDispatched : Obligations.PortAndPictureJobsAreDispatched := by
  refine ⟨fun h s => ?release, fun h s => ?ports⟩
  case release =>
    intro k way detached held list y
    have released : releasePicture k s = releaseHeldFailure y := by
      rw [releasePicture_eq, releaseStaged_eq]
      have frames : detachFrame k = detached := funext (detachFrame_eq k)
      simp only [frames]
      rfl
    have dispatched (used : s.pics[k].state ≠ .empty) : dispatchReleasePicture h s = releaseHeldFailure y :=
      (if_neg used).trans released
    refine ⟨fun empty => if_pos empty, fun used waits => ?_, fun f used isHeld room => ?_⟩
    · exact (dispatched used).trans (releaseHeldFailure_waits waits)
    · exact (dispatched used).trans (releaseHeldFailure_joins isHeld room)
  case ports =>
    intro p q port out opened resumed
    have holds : dispatchHoldPort h s = if q.hold then s else
        if (withdrawWaiting p (port { q with hold := true, preempt := false })).ports[p].session.live = .candidate then
          service p (rejudge p (withdrawLive p true (withdrawWaiting p (port { q with hold := true, preempt := false }))))
        else withdrawWaiting p (port { q with hold := true, preempt := false }) := rfl
    have resumes : dispatchResumePort h s =
        if q.hold then service p (select p (checkHead p (resumeHeld p opened))) else s := rfl
    have portAt (v : Port) : (port v).ports[p] = v := by simp [port]
    have resume : resumeHeld p opened = resumed := by
      simp only [resumeHeld, resumed, opened, portAt]
    have queue : resumed.ports[p].queue = q.queue := by
      simp only [resumed]
      split <;> simp only [queue_bandStart, opened, portAt]
    refine ⟨fun held => holds.trans (if_pos held), fun free live => ?_, fun free candidate => ?_, fun free => ?_,
      fun held none => ?_, fun j rest held head => ?_⟩
    · rw [holds, if_neg (by simp [free]), if_neg (by rwa [withdrawWaiting_ports, portAt]), withdrawWaiting_eq, portAt]
    · rw [holds, if_neg (by simp [free]), if_pos (by rwa [withdrawWaiting_ports, portAt]), rejudge_withdrawn (by rwa [portAt]), portAt]
      have isOut : modPipe (reportWithdrawn p) (modSession p (fun x => { x with live := .none })
          (port { q with hold := true, preempt := false })) = out := by
        simp only [modSession, modPort, modPipe, portAt, port, Vector.set_set]
        rfl
      rw [isOut]
    · rw [resumes, if_neg (by simp [free])]
    · rw [resumes, if_pos held, resume, checkHead, queue, none]
    · rw [resumes, if_pos held, resume, checkHead, queue, head]

end Sys2Proof.Machine
end

section
/-! PROOFS. A SEND job: the reference, the queue, preemption and bumping (O40). -/

namespace Sys2Proof.Machine

/-! ### The queue -/

/-- In a list sorted by falling priority, what stands before a priority bound is what lies within it. -/
theorem takeWhile_eq_filter {within : Job → Bool} {l : List Job} (sorted : l.Pairwise fun a b => b.prio ≤ a.prio)
    (down : ∀ a b : Job, b.prio ≤ a.prio → within b = true → within a = true) :
    l.takeWhile within = l.filter within ∧ l.dropWhile within = l.filter fun e => !within e := by
  induction l with
  | nil => exact ⟨rfl, rfl⟩
  | cons a l ih =>
    obtain ⟨first, rest⟩ := List.pairwise_cons.1 sorted
    obtain ⟨taken, dropped⟩ := ih rest
    cases inside : within a with
    | true => simp [inside, taken, dropped]
    | false =>
      have outside : ∀ b ∈ l, within b = false := fun b isIn =>
        Bool.eq_false_iff.2 fun insideB => by simp [down a b (first b isIn) insideB] at inside
      have none : l.filter within = [] := List.filter_eq_nil_iff.2 fun b isIn => by simp [outside b isIn]
      have all : (l.filter fun e => !within e) = l := List.filter_eq_self.2 fun b isIn => by simp [outside b isIn]
      simp [inside, none, all]

/-! ### Preemption -/

theorem preemptible_iff (st : SessionState) : preemptible st = true ↔
    st ∈ [SessionState.sending, .awaitVerdict, .waiting, .quiet, .standby] := by
  simp [preemptible, or_assoc]

/-- R150: the port of a session that leaves the live set or its candidates. -/
def departed (q : Port) : Port :=
  { q with
    lineTimes := if q.session.live = .member then [] else q.lineTimes
    session := { q.session with
      live := .none, counts := { q.session.counts with leftLive := q.session.counts.leftLive || decide (q.session.live = .member) } } }

/-- R72: what the pipeline is told of it. -/
def departReport (p : PortNo) (live : LiveStatus) (q : Pipeline) : Pipeline :=
  match live with
  | .member => reportDone p q
  | .candidate => reportWithdrawn p q
  | .none => q

theorem departed_trailing {q : Port} (live : q.session.live = .none) : departed q = q := by
  obtain ⟨queue, active, contexts, hold, preempt, session, link, wait, lineTimes, bandCheck⟩ := q
  obtain ⟨state, job, resumed, _, _⟩ := session
  simp only at live
  simp [departed, live]

theorem modPort_modStore (p : PortNo) (f : Port → Port) (g : LineStore → LineStore) (s : State) :
    modPort p f (modStore g s) = modStore g (modPort p f s) := rfl

theorem modPort_modPipe (p : PortNo) (f : Port → Port) (g : Pipeline → Pipeline) (s : State) :
    modPort p f (modPipe g s) = modPipe g (modPort p f s) := rfl

/-- A change of one port is told by what it makes of that port. -/
theorem modPort_congr {p : PortNo} {f g : Port → Port} {s : State} (h : f s.ports[p] = g s.ports[p]) : modPort p f s = modPort p g s := by
  rw [modPort, modPort, h]

theorem modPort_unchanged {p : PortNo} {f : Port → Port} {s : State} (h : f s.ports[p] = s.ports[p]) : modPort p f s = s := by
  rw [modPort, h]
  simp only [Fin.getElem_fin, Vector.set_getElem_self]

theorem leaveLive_other {p : PortNo} {s : State} (live : s.ports[p].session.live ≠ .member) : leaveLive p true s = s := if_neg live

theorem withdrawLive_other {p : PortNo} {s : State} (live : s.ports[p].session.live ≠ .candidate) : withdrawLive p true s = s :=
  if_neg live

theorem leaveLive_member {p : PortNo} {s : State} (live : s.ports[p].session.live = .member) :
    leaveLive p true s = modPipe (reportDone p) (modPort p departed s) := by
  have left : modPort p departed s = modPort p (fun q => { q with
      lineTimes := [], session := { q.session with live := .none, counts := { q.session.counts with leftLive := true } } }) s :=
    modPort_congr (by simp only [departed, live, if_true, decide_true, Bool.or_true])
  rw [left]
  exact if_pos live

theorem departLive_eq (p : PortNo) (s : State) :
    departLive p s = modPipe (departReport p s.ports[p].session.live) (modPort p departed s) := by
  cases live : s.ports[p].session.live with
  | none =>
    rw [departLive, leaveLive_other (by rw [live]; decide), withdrawLive_other (by rw [live]; decide),
      modPort_unchanged (departed_trailing live)]
    rfl
  | candidate =>
    rw [departLive, leaveLive_other (by rw [live]; decide), withdrawLive_candidate live, modSession]
    refine congrArg (modPipe (reportWithdrawn p)) (modPort_congr ?_)
    simp only [departed, live, reduceCtorEq, if_false, decide_false, Bool.or_false]
  | member =>
    have out : (modPipe (reportDone p) (modPort p departed s)).ports[p].session.live = .none := by
      simp [departed]
    rw [departLive, leaveLive_member live, withdrawLive_other (by rw [out]; decide)]
    rfl

/-- R47, R144: a session that ends, parts or is bumped keeps the pin of its frame in transfer. -/
theorem composing_departed (q : Port) : composing (departed q) = composing q := rfl

/-- R144, R145, R146, R150: a session that parts, is bumped or ends leaves the live set or its candidates, its pins drop, and its
waiting request is withdrawn. -/
theorem withdrawn_eq (p : PortNo) (s : State) : withdrawWait p (dropPins p (departLive p s)) =
    modStore (mapWays fun w => if composing s.ports[p] = some (w.pic, w.line) then w else { w with pins := w.pins.set p false })
      (modPipe (departReport p s.ports[p].session.live) (modPort p (fun q => { departed q with wait := none }) s)) := by
  have here : (departLive p s).ports[p] = departed s.ports[p] := by simp [departLive_eq]
  rw [dropPins, here, composing_departed, departLive_eq, withdrawWait, modPort_modStore, modPort_modPipe, modPort_modPort]

theorem checkPreempt_idle {s : State} {p : PortNo} (idle : s.ports[p].active = none) (c : Job) : checkPreempt p c s = s := by
  simp only [checkPreempt, idle]

/-- No state lets the check both set the request and bump. -/
theorem not_early_of_preemptible {st : SessionState} (h : st ∈ [SessionState.sending, .awaitVerdict, .waiting, .quiet, .standby]) :
    st ∉ [SessionState.seizing, .calling] := by
  rw [← preemptible_iff] at h
  intro early
  rcases List.mem_pair.1 early with rfl | rfl <;> cases h

/-- R101: the check passes where the candidate outranks the active job of a port that may be preempted. -/
def mayPreempt (s : State) (p : PortNo) (b : ActiveJob) (c : Job) : Prop :=
  b.job.prio < c.prio ∧ (settings s p).preempt = true ∧ s.ports[p].contexts.length < 2 ∧ s.ports[p].hold = false ∧
    s.ports[p].preempt = false

section
variable {s : State} {p : PortNo} {b : ActiveJob} (active : s.ports[p].active = some b) (c : Job)
include active

theorem checkPreempt_fails (h : ¬mayPreempt s p b c) : checkPreempt p c s = s := by
  simp only [checkPreempt, active]
  exact if_neg h

theorem checkPreempt_passes (h : mayPreempt s p b c) : checkPreempt p c s =
    if b.begun = true ∧ s.ports[p].session.state ∈ [.seizing, .calling] then bumpJob p b.job c s
    else if preemptible s.ports[p].session.state then
      modPort p (fun q => { q with preempt := true }) s
    else s := by
  simp only [checkPreempt, active]
  refine (if_pos h).trans ?_
  simp only [List.mem_cons, List.not_mem_nil, or_false]
end

/-- R102, R145: the bumped session ends, its job stands in the queue again, and the line is released. -/
theorem bumpJob_eq (p : PortNo) (displaced c : Job) (s : State) : bumpJob p displaced c s = releaseLine p true
    (modStore (mapWays fun w => if composing s.ports[p] = some (w.pic, w.line) then w else { w with pins := w.pins.set p false })
      (modPipe (departReport p s.ports[p].session.live) (modPort p (fun q => { departed q with
        wait := none, queue := insertBumped { displaced with bumped := true } (q.queue.erase c)
        active := some { job := c, begun := false }
        session := { (departed q).session with state := .releasing, outcome := none, timer := none, wishes := [], ending := .bumped } })
        s))) := by
  rw [bumpJob, withdrawn_eq, modPort_modStore, modPort_modPipe, modPort_modPort]
  rfl

/-- Settles O40: the queue by its order, and the check by its cases. -/
theorem sendJobsAreDispatched : Obligations.SendJobsAreDispatched := by
  refine ⟨fun h id s => rfl, fun j l sorted => ⟨?send, ?bumped⟩, fun s p c idle => checkPreempt_idle idle c,
    fun s p c b active => ?check⟩
  case send =>
    obtain ⟨before, after⟩ := takeWhile_eq_filter (within := fun e => j.prio ≤ e.prio) sorted (by simp; omega)
    simp only [insertSend, before, after, ← decide_not, not_le]
  case bumped =>
    obtain ⟨before, after⟩ := takeWhile_eq_filter (within := fun e => j.prio < e.prio) sorted (by simp; omega)
    simp only [insertBumped, before, after, ← decide_not, not_lt]
  case check =>
    intro q x outranks bumps unpin
    refine ⟨fun no => checkPreempt_fails active c no, fun passes early => ?_, fun passes sends => ?_, fun passes late idle => ?_⟩
    · rw [checkPreempt_passes active c passes, if_pos early, bumpJob_eq]
      refine congrArg (releaseLine p true) ?_
      rfl
    · rw [checkPreempt_passes active c passes, if_neg fun early => not_early_of_preemptible sends early.2,
        if_pos ((preemptible_iff _).2 sends)]
      rfl
    · rw [checkPreempt_passes active c passes, if_neg late, if_neg (mt (preemptible_iff _).1 idle)]

end Sys2Proof.Machine
end

section
/-! PROOFS. A SCAN job: the picture's record, the drum, the pipeline, and the live sends (O39). -/

namespace Sys2Proof.Machine

/-! ### The fields of the record -/

theorem livePorts_contains (mask : Nat) (p : PortNo) : (livePorts mask).contains p = mask.testBit p.val := by
  rw [Bool.eq_iff_iff, List.contains_iff_mem]
  simp only [livePorts, List.mem_filter, List.mem_finRange, true_and]

/-! ### The taking of a SCAN job -/

/-- R51: the drum stays as it spins, or enters SPINUP. -/
theorem drumTake_eq (c : DrumSettings) (rpm now : Nat) (d : Drum) : drumTake c rpm now d =
    if looping d.state ∧ d.target = some rpm then { d with scanHeld := true, idleSpin := none }
    else enterSpinUp c rpm now { d with scanHeld := true, idleSpin := none } := rfl

theorem looping_iff (st : DrumState) : looping st = true ↔ st = .spinUp ∨ st = .locked ∨ st = .slipped := by
  simp only [looping, Bool.or_eq_true, decide_eq_true_eq, or_assoc]

/-- R51: what the taking of a job does to the speed loop leaves the lamp, the carriage and the home switch alone. -/
theorem drumTake_rest (c : DrumSettings) (rpm now : Nat) (d : Drum) : (drumTake c rpm now d).lamp = d.lamp ∧
    (drumTake c rpm now d).carriage = d.carriage ∧ (drumTake c rpm now d).homeClosed = d.homeClosed := by
  rw [drumTake_eq]
  split <;> exact ⟨rfl, rfl, rfl⟩

theorem lampTake_rest (c : DrumSettings) (now : Nat) (d : Drum) :
    (lampTake c now d).carriage = d.carriage ∧ (lampTake c now d).homeClosed = d.homeClosed := by
  rw [lampTake]
  split <;> exact ⟨rfl, rfl⟩

/-- R64: a carriage that is home, or that closes its home switch, is known to be there; any other starts to home. -/
theorem carriageTake_eq (advance now : Nat) (d : Drum) : carriageTake advance now d = { d with
    advance := max 256 advance, fraction := 0
    carriage := if d.carriage = .known 0 ∨ d.homeClosed = true then .known 0 else .homing now 0 } := by
  unfold carriageTake
  dsimp only
  by_cases home : d.carriage = .known 0
  · rw [if_pos home, if_pos (Or.inl home), home]
  · rw [if_neg home]
    by_cases closed : d.homeClosed = true
    · rw [if_pos closed, if_pos (Or.inr closed)]
    · rw [if_neg closed, if_neg (by simp [home, closed])]

/-- R71, log 37: the scan begins homed where the carriage is home already. -/
theorem takeScan_eq (id : Nat) (k : Fin 16) (rpm advance : Nat) (live : List PortNo) (s : State) (spun ready : Drum)
    (isSpun : drumTake s.cfg.drum rpm s.now s.drum = spun)
    (isReady : carriageTake advance s.now (lampTake s.cfg.drum s.now spun) = ready) :
    takeScan id k rpm advance live s = { s with
      drum := ready
      pipe := { pipeTake id k s.pics[k] live (spun.state = .locked) s.now s.pipe with homed := decide (ready.carriage = .known 0) } } := by
  have taken : takeScan id k rpm advance live s =
      if ready.carriage = .known 0 then
        modPipe homedReport { s with drum := ready, pipe := pipeTake id k s.pics[k] live (spun.state = .locked) s.now s.pipe }
      else { s with drum := ready, pipe := pipeTake id k s.pics[k] live (spun.state = .locked) s.now s.pipe } := by
    subst isSpun isReady
    rfl
  rw [taken]
  split
  next home =>
    simp only [home, decide_true]
    rfl
  next away =>
    simp only [away, decide_false]
    rfl

/-- Settles O39: the record, the drum, the pipeline, and then each live send. -/
theorem scanJobsAreDispatched : Obligations.ScanJobsAreDispatched := by
  intro h id s r k rpm ioc S live d spinning c spun lit ready y giveWay' begun
  have isSpun : drumTake s.cfg.drum rpm s.now s.drum = spun :=
    (drumTake_eq c rpm s.now d).trans (if_congr (and_congr_left' (looping_iff d.state)) rfl rfl)
  obtain ⟨spunLamp, spunCarriage, spunHome⟩ := isSpun ▸ drumTake_rest s.cfg.drum rpm s.now s.drum
  have isLit : lampTake c s.now spun = lit := if_congr (by rw [spunLamp]) rfl rfl
  obtain ⟨litCarriage, litHome⟩ := isLit ▸ lampTake_rest c s.now spun
  have isReady : carriageTake (recAdvance r) s.now (lampTake c s.now spun) = ready := by
    have carriage : (if lit.carriage = .known 0 ∨ lit.homeClosed = true then Carriage.known 0 else .homing s.now 0) =
        ready.carriage := if_congr (by rw [litCarriage, litHome, spunCarriage, spunHome]) rfl rfl
    rw [isLit, carriageTake_eq, carriage]
    rfl
  have candidates : (Vector.ofFn fun p : PortNo => if live.contains p then some false else none) =
      Vector.ofFn fun p => if (byteAt r 14).testBit p.val then some false else none :=
    congrArg Vector.ofFn (funext fun p => by rw [show live.contains p = _ from livePorts_contains (recMask r) p]; rfl)
  have isTaken : takeScan id k rpm (recAdvance r) live (modPic k (fun _ => scanRecord r live.length) s) = y := by
    rw [takeScan_eq id k rpm (recAdvance r) live (modPic k (fun _ => scanRecord r live.length) s) spun ready isSpun isReady]
    have record : (modPic k (fun _ => scanRecord r live.length) s).pics[k] = scanRecord r live.length :=
      Vector.getElem_set_self _
    simp only [record, pipeTake, candidates, decide_eq_true_eq]
    rfl
  have gives : giveWay = giveWay' := rfl
  have isDispatched : dispatchScan h id s = openJobs live.length (live.foldl
      (fun x p => activate p (jobOf h id p.val (liveFields r p) true) true (giveWay p x))
      (takeScan id k rpm (recAdvance r) live (modPic k (fun _ => scanRecord r live.length) s))) := rfl
  rw [isDispatched, isTaken, gives]
  rfl

end Sys2Proof.Machine
end

section
/-! PROOFS. The Line Store: the grant of a line fetch, the end of a trailer flag unit, and the installation of a line (O10, O17, O19). -/

namespace Sys2Proof.Machine

/-! ### The grant of a line fetch -/

/-- R41: the way chosen becomes FILLING, the request is granted, and the unit reads the line where its picture's geometry puts it. -/
theorem grantFetch_eq {s : State} {p : PortNo} {q : LineWait} {w : Bool} (waits : s.ports[p].wait = some q)
    (chosen : chooseWay s.store.sets[setIndex q.pic q.line] = some w) : grantFetch p s = { s with
      store := modSet (setIndex q.pic q.line)
        (fun c => putWay c w { state := .filling, pic := q.pic, line := q.line, bytes := [], pins := noPins }) s.store
      ports := s.ports.set p { s.ports[p] with wait := some { q with form := .granted } }
      unit := some (.lineFetch p q.pic q.line w (lineAddrOf s.cfg.slots[q.pic].base s.pics[q.pic].stride q.line)
        s.pics[q.pic].stride s.pics[q.pic].picSamples false) } := by
  simp only [grantFetch, waits, chosen]
  rfl

theorem unpinned_iff (x : Way) : unpinned x = true ↔ x.state = .valid ∧ pinCount x = 0 := by
  simp [unpinned]

/-- R37: a set with no INVALID way gives the less recent way, else the other, if VALID and unpinned. -/
theorem chooseWay_full {c : LineSet} (way0 : c.way0.state ≠ .invalid) (way1 : c.way1.state ≠ .invalid) : chooseWay c =
    if unpinned (wayOf c c.lru) then some c.lru else if unpinned (wayOf c !c.lru) then some !c.lru else none := by
  rw [chooseWay, if_neg way0, if_neg way1]

/-- Settles O10: the grant is `grantFetch`, and the choice goes down the branches of `chooseWay`. -/
theorem lineFetchGrantFillsAWay : Obligations.LineFetchGrantFillsAWay := by
  refine ⟨fun t s p q w running idle next waits chosen => ?_, fun c => ⟨fun first => if_pos first, fun used first => ?_,
    fun used0 used1 less => ?_, fun used0 used1 less other => ?_, fun used0 used1 less other => ?_⟩⟩
  · rw [exec_arbiterGrant t running idle next, grant, grantFetch_eq (s := advance t s) waits chosen]
    rfl
  · rw [chooseWay, if_neg used, if_pos first]
  · rw [chooseWay_full used0 used1, if_pos ((unpinned_iff _).2 less)]
  · rw [chooseWay_full used0 used1, if_neg (mt (unpinned_iff _).1 less), if_pos ((unpinned_iff _).2 other)]
  · rw [chooseWay_full used0 used1, if_neg (mt (unpinned_iff _).1 less), if_neg (mt (unpinned_iff _).1 other)]

/-! ### The end of a trailer flag unit -/

theorem endTrailerFlag_eq {s : State} {f : LineFailure} (unit : s.unit = some (.trailerFlag f)) : endTrailerFlag s =
    releaseHeldFailure { s with
      mem := applyAccesses s.mem (trailerFlagAccesses s.mem f.trailer), unit := none
      trailers := s.trailers.filter fun g => g.trailer ≠ f.trailer } := by
  simp only [endTrailerFlag, unit]
  rfl

/-- Settles O17: the entry leaves the list, and then a failure held back joins it or waits on. -/
theorem trailerFlagUnitEnds : Obligations.TrailerFlagUnitEnds := by
  intro t s f running unit a rest b
  have ends : exec (.trailerFlagUnitEnd t) s = .next (noteChanges a (releaseHeldFailure b)) := by
    rw [show exec (.trailerFlagUnitEnd t) s = _ from act_running t endTrailerFlag s running, endTrailerFlag_eq (s := a) unit]
    rfl
  rw [ends]
  refine ⟨fun noneHeld => ?_, fun g held => ⟨fun room => ?_, fun full => ?_⟩⟩
  · rw [releaseHeldFailure_waits (s := b) (.inl noneHeld)]
  · rw [releaseHeldFailure_joins (s := b) held room]
    rfl
  · rw [releaseHeldFailure_waits (s := b) (.inr full)]

/-! ### Requests that are answered -/

/-- R40: a request of the port for this line waits. -/
def waitsFor (pic : Fin 16) (line : Nat) (q : Port) : Bool := q.wait.any fun y => y.pic = pic && y.line = line

theorem waitsFor_none {pic : Fin 16} {line : Nat} {q : Port} (wait : q.wait = none) : waitsFor pic line q = false := by
  rw [waitsFor, wait, Option.any_none]

theorem waitsFor_some {pic : Fin 16} {line : Nat} {q : Port} {y : LineWait} (wait : q.wait = some y) :
    waitsFor pic line q = true ↔ y.pic = pic ∧ y.line = line := by
  simp [waitsFor, wait]

/-- R40: the port with its request for this line answered. -/
def answered (pic : Fin 16) (line : Nat) (q : Port) : Port := if waitsFor pic line q then { q with wait := none } else q

/-- The set with the pins of one way replaced. -/
def putPins (w : Bool) (c : LineSet) (v : Vector Bool 4) : LineSet := putWay c w { wayOf c w with pins := v }

theorem putPins_own (w : Bool) (c : LineSet) : putPins w c (wayOf c w).pins = c := by
  cases w <;> rfl

/-- R39, R40: what the answer to the request of one port does to the set of a line that has just been used. -/
theorem pinWay_putPins {w : Bool} {c : LineSet} (recent : c.lru = !w) (p : PortNo) (v : Vector Bool 4) (asks : Bool) :
    (if asks then pinWay p w (putPins w c v) else putPins w c v) = putPins w c (v.set p (asks || v[p])) := by
  cases asks with
  | true =>
    obtain ⟨way0, way1, lru⟩ := c
    cases recent
    cases w <;> rfl
  | false =>
    rw [Bool.false_or, Fin.getElem_fin, Vector.set_getElem_self]
    exact if_neg Bool.false_ne_true

/-- Four ports' places set one after the other are the whole vector. -/
theorem foldl_set_ports (v : Vector Bool 4) (asks : PortNo → Bool) :
    allPorts.foldl (fun u (p : PortNo) => u.set p (asks p || u[p])) v = Vector.ofFn fun p => asks p || v[p] := by
  ext i hi
  simp only [allPorts, List.foldl_cons, List.foldl_nil, Vector.getElem_ofFn]
  interval_cases i <;> simp

/-- R40: in the set of a line just used, the answers of all ports pin its way for each port that waited. -/
theorem foldl_pinWay {w : Bool} {c : LineSet} (recent : c.lru = !w) (asks : PortNo → Bool) :
    allPorts.foldl (fun d p => if asks p then pinWay p w d else d) c =
      putPins w c (Vector.ofFn fun p => asks p || (wayOf c w).pins[p]) := by
  have each (l : List PortNo) (v : Vector Bool 4) : l.foldl (fun d p => if asks p then pinWay p w d else d) (putPins w c v) =
      putPins w c (l.foldl (fun (u : Vector Bool 4) (p : PortNo) => u.set p (asks p || u[p])) v) := by
    induction l generalizing v with
    | nil => rfl
    | cons p l ih => rw [List.foldl_cons, List.foldl_cons, pinWay_putPins recent, ih]
  rw [← foldl_set_ports, ← each, putPins_own]

/-- A change of each port in turn, with a change of the Line Store that is decided by the port as it stood. -/
theorem forPorts_modPort_modStore {f : PortNo → State → State} {g : Port → Port} {h : PortNo → LineStore → LineStore} {s : State}
    (each : ∀ p x, x.ports[p] = s.ports[p] → f p x = modPort p g (modStore (h p) x)) : forPorts f s =
      { s with ports := s.ports.map g, store := allPorts.foldl (fun y p => h p y) s.store } := by
  have fold (l : List PortNo) (distinct : l.Nodup) (y : State) (same : ∀ p ∈ l, y.ports[p] = s.ports[p]) :
      l.foldl (fun x p => f p x) y = { y with
        ports := l.foldl (fun (v : Vector Port 4) (p : PortNo) => v.set p (g v[p])) y.ports
        store := l.foldl (fun z p => h p z) y.store } := by
    induction l generalizing y with
    | nil => rfl
    | cons p l ih =>
      obtain ⟨new, distinct⟩ := List.nodup_cons.1 distinct
      rw [List.foldl_cons, each p y (same p List.mem_cons_self)]
      exact ih distinct _ fun q later =>
        (modPort_other p q g _ fun eq => new (eq ▸ later)).trans (same q (List.mem_cons_of_mem p later))
  have ports : allPorts.foldl (fun (v : Vector Port 4) (p : PortNo) => v.set p (g v[p])) s.ports = s.ports.map g := by
    ext i hi
    simp only [allPorts, List.foldl_cons, List.foldl_nil]
    interval_cases i <;> simp
  rw [forPorts, fold allPorts (by decide) s fun _ _ => rfl, ports]

theorem modSet_id (i : Fin 16) (x : LineStore) : modSet i (fun c => c) x = x := by
  simp [modSet]

/-- The set after a change of it. -/
theorem modSet_same (i : Fin 16) (f : LineSet → LineSet) (x : LineStore) : (modSet i f x).sets[i] = f x.sets[i] :=
  Vector.getElem_set_self _

theorem modSet_modSet (i : Fin 16) (f g : LineSet → LineSet) (x : LineStore) :
    modSet i f (modSet i g x) = modSet i (fun c => f (g c)) x := by
  simp [modSet]

theorem foldl_modSet {α : Type} (i : Fin 16) (f : α → LineSet → LineSet) (l : List α) (x : LineStore) :
    l.foldl (fun y a => modSet i (f a) y) x = modSet i (fun c => l.foldl (fun d a => f a d) c) x := by
  induction l generalizing x with
  | nil => exact (modSet_id i x).symm
  | cons a l ih => exact (ih _).trans (modSet_modSet ..)



/-- R40: the answer to one port, by whether its request is for the line. -/
theorem answerPort_eq (pic : Fin 16) (line : Nat) (w : Bool) (p : PortNo) (x : State) :
    modPort p (answered pic line)
      (modStore (modSet (setIndex pic line) fun c => if waitsFor pic line x.ports[p] then pinWay p w c else c) x) =
    if waitsFor pic line x.ports[p] then
      modPort p (fun y => { y with wait := none }) (modStore (modSet (setIndex pic line) (pinWay p w)) x)
    else x := by
  by_cases waits : waitsFor pic line x.ports[p] = true
  · simp only [waits, if_true]
    exact modPort_congr (if_pos waits)
  · simp only [if_neg waits, modStore, modSet_id]
    exact modPort_unchanged (if_neg waits)

/-- R40: the requests for a line that has just been used are answered: its way is pinned for each port that waited for it. -/
theorem answerWaiters_eq {pic : Fin 16} {line : Nat} {w : Bool} {s : State} (recent : s.store.sets[setIndex pic line].lru = !w) :
    answerWaiters pic line w s = { s with
      ports := s.ports.map (answered pic line)
      store := modSet (setIndex pic line) (fun c =>
        putPins w c (Vector.ofFn fun p => waitsFor pic line s.ports[p] || (wayOf c w).pins[p])) s.store } := by
  unfold answerWaiters
  rw [forPorts_modPort_modStore (g := answered pic line)
    (h := fun p => modSet (setIndex pic line) fun c => if waitsFor pic line s.ports[p] then pinWay p w c else c)]
  · rw [foldl_modSet, modSet, modSet, foldl_pinWay recent]
  · intro p x same
    rw [← same, answerPort_eq]
    cases wait : x.ports[p].wait with
    | none => rw [waitsFor_none wait, if_neg Bool.false_ne_true]
    | some y => rw [if_congr (waitsFor_some wait) rfl rfl]

/-- A way written anew, with its pins put in afterwards. -/
theorem putPins_touch_putWay (w : Bool) (c : LineSet) (x : Way) (pins : Vector Bool 4) :
    putPins w (touch w (putWay c w x)) pins = touch w (putWay c w { x with pins := pins }) := by
  cases w <;> rfl

theorem wayOf_touch_putWay (w : Bool) (c : LineSet) (x : Way) : wayOf (touch w (putWay c w x)) w = x := by
  cases w <;> rfl

/-- R40: a way written anew for a line is pinned for each port that waited for the line. -/
theorem answerWaiters_touch {pic : Fin 16} {line : Nat} {w : Bool} (f : LineSet → Way) (s : State) :
    answerWaiters pic line w (modStore (modSet (setIndex pic line) fun c => touch w (putWay c w (f c))) s) = { s with
      ports := s.ports.map (answered pic line)
      store := modSet (setIndex pic line) (fun c => touch w (putWay c w { f c with
        pins := Vector.ofFn fun p => waitsFor pic line s.ports[p] || (f c).pins[p] })) s.store } := by
  have recent : (modStore (modSet (setIndex pic line) fun c => touch w (putWay c w (f c))) s).store.sets[setIndex pic line].lru =
      !w := by
    rw [modStore_store, modSet_same]
    rfl
  rw [answerWaiters_eq recent, modStore_store, modSet_modSet]
  simp only [putPins_touch_putWay, wayOf_touch_putWay]
  rfl

/-! ### The installation of a line -/

theorem installLine_hit {pic : Fin 16} {line : Nat} {s : State} {w : Bool}
    (hit : findWay .valid pic line s.store.sets[setIndex pic line] = some w) (bytes : List Byte) : installLine pic line bytes s =
    modStore (modSet (setIndex pic line) fun c => touch w (putWay c w { wayOf c w with bytes := bytes })) s := by
  simp only [installLine, hit]

theorem installLine_full {pic : Fin 16} {line : Nat} {s : State}
    (miss : findWay .valid pic line s.store.sets[setIndex pic line] = none)
    (full : chooseWay s.store.sets[setIndex pic line] = none) (bytes : List Byte) : installLine pic line bytes s = s := by
  simp only [installLine, miss, full]

theorem installLine_chosen {pic : Fin 16} {line : Nat} {s : State} {w : Bool}
    (miss : findWay .valid pic line s.store.sets[setIndex pic line] = none)
    (chosen : chooseWay s.store.sets[setIndex pic line] = some w) (bytes : List Byte) : installLine pic line bytes s =
    answerWaiters pic line w (modStore (modSet (setIndex pic line) fun c =>
      touch w (putWay c w { state := .valid, pic := pic, line := line, bytes := bytes, pins := noPins })) s) := by
  simp only [installLine, miss, chosen]

/-- Settles O19: a hit takes the bytes, a full set takes nothing, and in a chosen way the ports that waited are answered. -/
theorem linesAreInstalled : Obligations.LinesAreInstalled := by
  intro s k n bytes i c waits put
  refine ⟨rfl, fun w hit => installLine_hit hit bytes, fun miss full => installLine_full miss full bytes, fun w miss chosen => ?_⟩
  have pins : (Vector.ofFn fun p => waitsFor k n s.ports[p] || noPins[p]) = Vector.ofFn waits := by
    simp [noPins, waitsFor, waits]
  have ports : s.ports.map (answered k n) = Vector.ofFn fun p => if waits p then { s.ports[p] with wait := none } else s.ports[p] :=
    Vector.ext fun p below => by
      rw [Vector.getElem_map, Vector.getElem_ofFn]
      rfl
  rw [installLine_chosen miss chosen, answerWaiters_touch, pins, ports]
  rfl

end Sys2Proof.Machine
end

section
/-! PROOFS. The end of a line fetch (O20). -/

namespace Sys2Proof.Machine

/-! ### A failing line -/

/-- R44: a failure joins the trailer writer's list, or is held back while the list is full; a trailer that stands in the list
already stands there once. -/
theorem passFailure_eq (f : LineFailure) (s : State) : passFailure f s = { s with
    store := { s.store with
      heldFailure := if (¬∃ g ∈ s.trailers, g.trailer = f.trailer) ∧ 8 ≤ s.trailers.length then some f else s.store.heldFailure }
    trailers := if (∃ g ∈ s.trailers, g.trailer = f.trailer) ∨ 8 ≤ s.trailers.length then s.trailers else s.trailers ++ [f] } := by
  have listed : (s.trailers.any fun g => g.trailer = f.trailer) = true ↔ ∃ g ∈ s.trailers, g.trailer = f.trailer := by
    simp
  by_cases known : ∃ g ∈ s.trailers, g.trailer = f.trailer
  · rw [passFailure, joinTrailers, if_pos (by simp [listed.2 known]), if_pos (listed.2 known), if_neg (fun h => h.1 known),
      if_pos (.inl known)]
  · have new := mt listed.1 known
    by_cases full : 8 ≤ s.trailers.length
    · have noRoom : ¬s.trailers.length < trailerListMax := not_lt.2 full
      rw [passFailure, if_neg (by simp [new, noRoom]), if_pos ⟨known, full⟩, if_pos (.inr full)]
      rfl
    · have room : s.trailers.length < trailerListMax := not_le.1 full
      rw [passFailure, joinTrailers, if_pos (by simp [room]), if_neg new, if_neg (fun h => full h.2),
        if_neg (fun h => h.elim known full)]

/-- R44, R45, R46: a failing line is counted, latched and passed to the trailer writer. -/
theorem failFetch_eq (p : PortNo) (stood : Bool) (f : LineFailure) (s : State) : failFetch p stood f s = { s with
    store := { s.store with
      checkErrors := bump max32 s.store.checkErrors
      latch := if s.store.latch = none then some f else s.store.latch
      heldFailure := if (¬∃ g ∈ s.trailers, g.trailer = f.trailer) ∧ 8 ≤ s.trailers.length then some f else s.store.heldFailure }
    pics := s.pics.set f.pic { s.pics[f.pic] with checkErrors := bump max16 s.pics[f.pic].checkErrors }
    ports := if stood then
      (modCounts p (fun c => { c with suspect := bump max16 c.suspect }) s).ports else s.ports
    notice := (raise classCheck s).notice
    trailers := if (∃ g ∈ s.trailers, g.trailer = f.trailer) ∨ 8 ≤ s.trailers.length then s.trailers else s.trailers ++ [f] } := by
  unfold failFetch
  dsimp only [modStore]
  cases s.store.latch <;> cases stood <;> exact passFailure_eq f _

/-- R44: what a failing line changes is not the staged lines. -/
theorem failFetch_modSet (p : PortNo) (stood : Bool) (f : LineFailure) (i : Fin 16) (g : LineSet → LineSet) (s : State) :
    failFetch p stood f (modStore (modSet i g) s) = modStore (modSet i g) (failFetch p stood f s) := by
  rw [failFetch_eq, failFetch_eq]
  rfl

theorem failFetch_ports (p : PortNo) (stood : Bool) (f : LineFailure) (s : State) : (failFetch p stood f s).ports =
    if stood then (modCounts p (fun c => { c with suspect := bump max16 c.suspect }) s).ports else s.ports := by
  rw [failFetch_eq]

/-- R44: what a failing line changes at a port is its suspect count, which leaves the requests as they are. -/
theorem waitsFor_failFetch (pic : Fin 16) (line : Nat) (p : PortNo) (stood : Bool) (f : LineFailure) (s : State) (q : PortNo) :
    waitsFor pic line (failFetch p stood f s).ports[q] = waitsFor pic line s.ports[q] := by
  rw [failFetch_ports]
  cases stood with
  | false => rfl
  | true =>
    rw [if_pos rfl, Fin.getElem_fin, modCounts, modSession, modPort_get]
    split
    next same =>
      rw [same]
      rfl
    next => rfl

theorem answered_session (pic : Fin 16) (line : Nat) (q : Port) (x : Session) :
    answered pic line { q with session := x } = { answered pic line q with session := x } := by
  have same : waitsFor pic line { q with session := x } = waitsFor pic line q := rfl
  by_cases waits : waitsFor pic line q = true
  · rw [answered, answered, same, if_pos waits, if_pos waits]
  · rw [answered, answered, same, if_neg waits, if_neg waits]

theorem session_answered (pic : Fin 16) (line : Nat) (q : Port) : (answered pic line q).session = q.session := by
  unfold answered
  split <;> rfl

/-- R40, R44: a count of the session at a port stands beside the answer to its request. -/
theorem map_answered_modCounts (pic : Fin 16) (line : Nat) (p : PortNo) (f : Counts → Counts) (s : State) :
    (modCounts p f s).ports.map (answered pic line) =
      (modCounts p f { s with ports := s.ports.map (answered pic line) }).ports := by
  simp only [modCounts, modSession, modPort_ports, Vector.map_set, Fin.getElem_fin, Vector.getElem_map, answered_session,
    session_answered]

/-! ### The end of the fetch -/

theorem endLineFetch_eq {s : State} {p : PortNo} {k : Fin 16} {n : Nat} {w : Bool} {la stride samples : Nat} {dropped : Bool}
    (unit : s.unit = some (.lineFetch p k n w la stride samples dropped)) : endLineFetch s = forPorts service
      (endFetch p k n w (la + stride - 4) dropped (readBytes s.mem la samples) (readBytes s.mem (la + stride - 4) 4)
        { s with unit := none }) := by
  simp only [endLineFetch, unit]
  rfl

/-- R43: a line passes where its check and its number stand in the trailer word. -/
theorem verifies_iff (density trailer : List Byte) (line : Nat) : verifies density trailer line = true ↔
    fieldAt trailer 0 2 = (density.map (·.toNat)).sum % 65536 ∧ byteAt trailer 2 = line % 256 := by
  rw [verifies, Bool.and_eq_true, decide_eq_true_eq, decide_eq_true_eq, lineCheck_eq]

/-- R41: the requests for a line whose fetch stages nothing stand as misses again. -/
theorem unjoin_eq (pic : Fin 16) (line : Nat) (s : State) : unjoin pic line s = { s with
    ports := s.ports.map fun v =>
      { v with wait := v.wait.map fun y => if y.pic = pic ∧ y.line = line then { y with form := .fetching } else y } } := by
  refine forPorts_same (fun p x => modPort_congr ?_) s
  generalize x.ports[p] = v
  obtain ⟨queue, active, contexts, hold, preempt, session, link, wait, lineTimes, bandCheck⟩ := v
  cases wait with
  | none => rfl
  | some y =>
    dsimp only
    rw [Option.map_some]
    split <;> rfl

/-- R44: a request for a line stands as it was granted. -/
theorem decide_granted (y : LineWait) (k : Fin 16) (n : Nat) :
    decide (some y = some { pic := k, line := n, form := .granted }) =
      (decide (y.pic = k) && decide (y.line = n) && decide (y.form = .granted)) := by
  obtain ⟨pic, line, form⟩ := y
  simp [Bool.and_assoc]

section
variable {s : State} {p : PortNo} {k : Fin 16} {n : Nat} {w : Bool} {T : Nat} {density trailer : List Byte}

theorem endFetch_dropped : endFetch p k n w T true density trailer s = unjoin k n (modStore (modSet (setIndex k n) fun c =>
    putWay c w { wayOf c w with state := .invalid, pins := noPins }) s) := rfl

/-- R41: a line that passes is staged, and the requests for it are answered. -/
theorem endFetch_passes (good : verifies density trailer n = true) : endFetch p k n w T false density trailer s =
    answerWaiters k n w (modStore (modSet (setIndex k n) fun c =>
      touch w (putWay c w { wayOf c w with state := .valid, bytes := density })) s) := by
  simp only [endFetch, good, if_true]
  rfl

/-- R44: a line that fails is staged nonetheless, and the requests for it are answered. -/
theorem endFetch_fails (bad : ¬verifies density trailer n = true) : endFetch p k n w T false density trailer s =
    answerWaiters k n w (modStore (modSet (setIndex k n) fun c =>
      touch w (putWay c w { wayOf c w with state := .valid, bytes := density }))
      (failFetch p (decide (s.ports[p].wait = some { pic := k, line := n, form := .granted }))
        { pic := k, line := n, trailer := T } s)) := by
  rw [← failFetch_modSet]
  simp only [endFetch, bad]
  cases wait : s.ports[p].wait with
  | none => rfl
  | some y =>
    rw [decide_granted]
    rfl
end

/-- Settles O20: a dropped fetch stages nothing; any other stages its line and answers for it, and a failing one is told of besides. -/
theorem lineFetchEnds : Obligations.LineFetchEnds := by
  intro t s p k n w la stride samples dropped running unit a i c T density trailer good waits stood f staged answered' known suspected
  have ends : exec (.lineFetchEnd t) s = .next (noteChanges a (forPorts service
      (endFetch p k n w T dropped density trailer { a with unit := none }))) := by
    rw [show exec (.lineFetchEnd t) s = _ from act_running t endLineFetch s running, endLineFetch_eq (s := a) unit]
    rfl
  rw [ends]
  refine ⟨fun isDropped => ?_, fun stays pass => ?_, fun stays fails => ?_⟩
  · rw [isDropped, endFetch_dropped, unjoin_eq]
    rfl
  · rw [stays, endFetch_passes ((verifies_iff ..).2 pass), answerWaiters_touch]
    rfl
  · have ports : (failFetch p stood f { a with unit := none }).ports.map (answered k n) = if stood then suspected else answered' := by
      rw [failFetch_ports]
      by_cases isStood : stood
      · rw [if_pos isStood, if_pos (decide_eq_true isStood), map_answered_modCounts]
        rfl
      · rw [if_neg isStood, if_neg (by simpa using isStood)]
        rfl
    have failed : endFetch p k n w T false density trailer { a with unit := none } =
        answerWaiters k n w (modStore _ (failFetch p stood f { a with unit := none })) :=
      endFetch_fails (mt (verifies_iff ..).1 fails)
    rw [stays, failed, answerWaiters_touch, ports]
    simp only [waitsFor_failFetch]
    rw [failFetch_eq]
    rfl

end Sys2Proof.Machine
end

section
/-! PROOFS. What a port asks the Line Store for and what it hands its coupler next (O23). -/

namespace Sys2Proof.Machine

/-! ### The lines a port asks for -/

theorem mayAsk_iff (s : State) (p : PortNo) : mayAsk s p = true ↔ pinsHeld s.store p < 2 ∧ s.ports[p].wait = none := by
  rw [mayAsk, Bool.and_eq_true, decide_eq_true_eq, Option.isNone_iff_eq_none]

theorem askLine_hit {p : PortNo} {pic : Fin 16} {line : Nat} {s : State} {w : Bool}
    (hit : findWay .valid pic line s.store.sets[setIndex pic line] = some w) :
    askLine p pic line s = modStore (modSet (setIndex pic line) (pinWay p w)) s := by
  simp only [askLine, hit]

theorem askLine_miss {p : PortNo} {pic : Fin 16} {line : Nat} {s : State}
    (miss : findWay .valid pic line s.store.sets[setIndex pic line] = none) :
    askLine p pic line s = modPort p (fun q => { q with wait := some {
      pic := pic, line := line
      form := if (findWay .filling pic line s.store.sets[setIndex pic line]).isSome then .joined else .fetching } }) s := by
  simp only [askLine, miss]

/-- R39, R137: port `p` asks for line `n` of its pass over the picture of job `j`. -/
def asksFor (s : State) (p : PortNo) (j : Job) (n : Nat) : Prop :=
  s.ports[p].session.state = .sending ∧ n ≤ s.ports[p].session.bandEnd ∧ n < s.pics[j.pic].mark ∧
    (s.ports[p].session.asked ≤ n ∨ holdsPin s.store p j.pic n = false) ∧ pinsHeld s.store p < 2 ∧ s.ports[p].wait = none

section
variable {s : State} {p : PortNo} {j : Job} (job : s.ports[p].session.job = some j) {d : Nat}
include job

theorem stageLine_asks (asks : asksFor s p j (s.ports[p].session.nextLine + d)) : stageLine p d s =
    modSession p (fun x => { x with asked := max x.asked (s.ports[p].session.nextLine + d + 1) })
      (askLine p j.pic (s.ports[p].session.nextLine + d) s) := by
  rw [asksFor, ← mayAsk_iff] at asks
  simp only [stageLine, job]
  exact if_pos asks

theorem stageLine_waits (waits : ¬asksFor s p j (s.ports[p].session.nextLine + d)) : stageLine p d s = s := by
  rw [asksFor, ← mayAsk_iff] at waits
  simp only [stageLine, job]
  exact if_neg waits
end

theorem stageLine_jobless {s : State} {p : PortNo} (job : s.ports[p].session.job = none) (d : Nat) : stageLine p d s = s := by
  simp only [stageLine, job]

/-! ### The frame a session hands next -/

theorem nextFrame_wish {s : State} {p : PortNo} {w : Wish} {rest : List Wish} (wishes : s.ports[p].session.wishes = w :: rest) :
    nextFrame s p = some (wishFrame s p w) := by
  simp only [nextFrame, wishes]

/-- R117: the session line time, by the drum speed of the far end or of the picture. -/
theorem sessionLineTime_eq {s : State} {p : PortNo} {j : Job} {rpm : Nat} (job : s.ports[p].session.job = some j)
    (speed : (if s.ports[p].session.state = .seizing ∨ s.ports[p].session.state = .calling then s.pics[j.pic].rpm
      else s.ports[p].session.farRpm.getD s.pics[j.pic].rpm) = rpm) :
    sessionLineTime s p = (2 * 60000000 + rpm) / (2 * rpm) := by
  subst speed
  simp only [sessionLineTime, job]
  split <;> rfl

/-- R117: the line time of a PICTURE line is that of its scan, where the port holds it. -/
theorem pictureLineTime_eq (s : State) (p : PortNo) (line : Nat) : pictureLineTime s p line =
    (((s.ports[p].lineTimes.find? fun e => e.1 = line).map (·.2)).getD (sessionLineTime s p)) := by
  unfold pictureLineTime
  cases s.ports[p].lineTimes.find? fun e => e.1 = line <;> rfl

section
variable {s : State} {p : PortNo} {j : Job} (job : s.ports[p].session.job = some j) (wishes : s.ports[p].session.wishes = [])
include job wishes

theorem nextFrame_caption (state : s.ports[p].session.state = .caption) : nextFrame s p =
    if s.ports[p].session.counts.captionSent then none
    else some (.text (settings s p).sync j.caption (captionCheck (settings s p) j.caption) (settings s p).pad) := by
  simp only [nextFrame, job, wishes, state]

theorem nextFrame_phasing (state : s.ports[p].session.state = .phasing) : nextFrame s p =
    if s.ports[p].session.phasingHanded < (settings s p).phasingLines then
      some (.phasing (s.ports[p].session.phasingHanded + 1) (tonesOf (settings s p)) (sessionLineTime s p) (picOf s j).picSamples)
    else none := by
  simp only [nextFrame, job, wishes, state]

theorem nextFrame_sending (state : s.ports[p].session.state = .sending) : nextFrame s p = sendingFrame s p j := by
  simp only [nextFrame, job, wishes, state]

theorem nextFrame_standby (state : s.ports[p].session.state = .standby ∨ s.ports[p].session.state = .held) : nextFrame s p =
    some (.standby (tonesOf (settings s p)) (sessionLineTime s p) (picOf s j).picSamples) := by
  rcases state with state | state <;> simp only [nextFrame, job, wishes, state]

theorem nextFrame_silent (state : s.ports[p].session.state ∉ [SessionState.caption, .phasing, .sending, .standby, .held]) :
    nextFrame s p = none := by
  simp only [nextFrame, job, wishes]
  split <;> simp_all
end

theorem itemOf_sendingFrame {s : State} {p : PortNo} {j : Job} {f : Frame} (next : sendingFrame s p j = some f) :
    (itemOf f).isSome := by
  unfold sendingFrame at next
  dsimp only at next
  split at next
  · rw [Option.ite_none_right_eq_some] at next
    cases next.2
    rfl
  · cases next
    rfl

/-- What a session hands is an item. -/
theorem itemOf_nextFrame {s : State} {p : PortNo} {f : Frame} (next : nextFrame s p = some f) : (itemOf f).isSome := by
  cases wishes : s.ports[p].session.wishes with
  | cons w rest =>
    rw [nextFrame_wish wishes] at next
    cases next
    cases w <;> rfl
  | nil =>
    cases job : s.ports[p].session.job with
    | none => simp only [nextFrame, wishes, job, reduceCtorEq] at next
    | some j =>
      by_cases silent : s.ports[p].session.state ∉ [SessionState.caption, .phasing, .sending, .standby, .held]
      · rw [nextFrame_silent job wishes silent] at next
        cases next
      · simp only [not_not, List.mem_cons, List.not_mem_nil, or_false] at silent
        rcases silent with state | state | state | state
        · rw [nextFrame_caption job wishes state, Option.ite_none_left_eq_some] at next
          cases next.2
          rfl
        · rw [nextFrame_phasing job wishes state, Option.ite_none_right_eq_some] at next
          cases next.2
          rfl
        · rw [nextFrame_sending job wishes state] at next
          exact itemOf_sendingFrame next
        · rw [nextFrame_standby job wishes state] at next
          cases next
          rfl

/-- R113: a TEXT counts two units, a LINE one. -/
theorem frameUnits_item {f : Frame} (item : (itemOf f).isSome) : frameUnits f = if itemOf f = some .text then 2 else 1 := by
  cases f with
  | seize | mode | flush | release => exact absurd item Bool.false_ne_true
  | _ => rfl

/-! ### The start of an item -/

theorem pump_silent {s : State} {p : PortNo} (next : nextFrame s p = none) : pump p s = s := by
  simp only [pump, next]

/-- R113: an item of `n` units may start. -/
theorem roomFor_iff (n : Nat) (l : Link) : roomFor n l = true ↔
    l.state = .connected ∧ l.flushing = false ∧ l.transfer = none ∧ (l.outstanding.map itemUnits).sum + n ≤ 2 := by
  have free (h : l.transfer = none) : unitsHeld l = (l.outstanding.map itemUnits).sum := by
    rw [unitsHeld, h]
    rfl
  simp only [roomFor, Bool.and_eq_true, decide_eq_true_eq, Bool.not_eq_true', Option.isNone_iff_eq_none, and_assoc]
  exact and_congr_right' (and_congr_right' (and_congr_right fun h => by rw [free h]))

theorem pump_frame {s : State} {p : PortNo} {f : Frame} (next : nextFrame s p = some f) : pump p s =
    if roomFor (if itemOf f = some .text then 2 else 1) s.ports[p].link then modPort p (fun q => { q with
      bandCheck := if beginsBand q.session (bandLen s p) f then 0 else q.bandCheck
      session := { q.session with wishes := q.session.wishes.tail }, link := sendFrame f q.link }) s
    else s := by
  simp only [pump, next, frameUnits_item (itemOf_nextFrame next)]

theorem pump_waits {s : State} {p : PortNo} {f : Frame} (next : nextFrame s p = some f)
    (noRoom : ¬roomFor (if itemOf f = some .text then 2 else 1) s.ports[p].link = true) : pump p s = s := by
  rw [pump_frame next, if_neg noRoom]

theorem sendFrame_free {l : Link} (free : l.transfer = none) (f : Frame) : sendFrame f l = { l with transfer := some { frame := f } } := by
  simp only [sendFrame, free]

/-- R118: the accumulator at the start of an item. -/
theorem beginsBand_eq (x : Session) (len check : Nat) (f : Frame) : (if beginsBand x len f then 0 else check) =
    match f with
    | .picture _ line _ _ _ => if line = x.band * len then 0 else check
    | _ => check := by
  cases f with
  | picture pic line tones time bytes => simp [beginsBand]
  | _ => rfl

/-- R122: the CRC of a caption takes in each byte in eight shifts. -/
theorem crc16_eq (caption : List Byte) : crc16 caption =
    (caption.foldl (fun r y => crcShift^[8] (r ^^^ y.setWidth 16)) (0 : BitVec 16)).toNat := rfl

/-- Settles O23: a line is asked for or not, an item starts or not, and the next frame goes by the session's state. -/
theorem portsStageAndHand : Obligations.PortsStageAndHand := by
  refine ⟨fun s p => ?port, fun s p j job => ?frame, fun c caption => ?check⟩
  case port =>
    intro q x port units
    refine ⟨rfl, fun j d job => ?_, stageLine_jobless, fun f next connected calm free room => ?_, fun silent => ?_, fun f next full => ?_⟩
    · intro n i c asks asked
      refine ⟨stageLine_waits job, fun w isAsked hit => ?_, fun isAsked miss => ?_⟩
      · rw [stageLine_asks job isAsked, askLine_hit hit]
        rfl
      · rw [stageLine_asks job isAsked, askLine_miss miss, modSession, modPort_modPort]
        rfl
    · rw [pump_frame next, if_pos ((roomFor_iff _ _).2 ⟨connected, calm, free, room⟩)]
      simp only [modPort, beginsBand_eq]
      rw [sendFrame_free free]
      rfl
    · cases next : nextFrame s p with
      | none => exact pump_silent next
      | some f =>
        refine pump_waits next fun room => ?_
        obtain ⟨connected, calm, free, -⟩ := (roomFor_iff _ _).1 room
        rcases silent with noFrame | away | flushing | busy
        · exact absurd (next.symm.trans noFrame) (Option.some_ne_none f)
        · exact away connected
        · exact Bool.false_ne_true (calm.symm.trans flushing)
        · exact busy free
    · refine pump_waits next fun room => ?_
      obtain ⟨-, -, -, units⟩ := (roomFor_iff _ _).1 room
      exact absurd full (not_lt.2 units)
  case frame =>
    intro x c r rpm time tones
    have lineTime : sessionLineTime s p = time := sessionLineTime_eq job rfl
    refine ⟨fun w rest wishes => ?_, fun wishes => ⟨fun state => ?_, fun state => ?_, fun state => ?_, fun state => ?_, fun state => ?_⟩⟩
    · rw [nextFrame_wish wishes, ← lineTime]
      cases w <;> rfl
    · exact nextFrame_caption job wishes state
    · rw [nextFrame_phasing job wishes state, lineTime]
      rfl
    · rw [nextFrame_sending job wishes state, sendingFrame, pictureLineTime_eq, lineTime]
      rfl
    · rw [nextFrame_standby job wishes state, lineTime]
      rfl
    · exact nextFrame_silent job wishes state
  case check =>
    intro shift
    refine ⟨fun kind => ?_, fun kind => ?_⟩
    · rw [captionCheck, kind]
      rfl
    · rw [captionCheck, kind]
      rfl

end Sys2Proof.Machine
end

section
/-! PROOFS. The end of a frame's transfer, what its hand-over counts, and the bytes of frames (O29). -/

namespace Sys2Proof.Machine

/-! ### The end of the transfer -/

/-- R47: a way once the frame of port `p` has reached its end. -/
def unpinnedBy (p : PortNo) (f : Frame) (w : Way) : Way :=
  match f with
  | .picture (some pic) line _ _ _ => if w.pic = pic ∧ w.line = line then { w with pins := w.pins.set p false } else w
  | _ => w

theorem mapWays_id (x : LineStore) : mapWays (fun w => w) x = x := by
  simp [mapWays]

/-- R47: the pin of a PICTURE line drops; no other frame has one. -/
theorem unpinFrame_eq (p : PortNo) (f : Frame) (s : State) : unpinFrame p f s = modStore (mapWays (unpinnedBy p f)) s := by
  have noPin (h : pictureOf f = none) (same : unpinnedBy p f = fun w => w) :
      unpinFrame p f s = modStore (mapWays (unpinnedBy p f)) s := by
    rw [unpinFrame, h, same, modStore, mapWays_id]
  cases f with
  | picture pic line tones time bytes =>
    cases pic with
    | none => exact noPin rfl rfl
    | some k =>
      have drops : dropPin p k line s.store = mapWays (unpinnedBy p (.picture (some k) line tones time bytes)) s.store :=
        congrArg (mapWays · s.store) (funext fun w => if_congr (by simp) rfl rfl)
      exact congrArg (fun x => ({ s with store := x } : State)) drops
  | _ => exact noPin rfl rfl

/-- R118: the band check accumulator once a frame has reached its end. -/
def checkAfter (f : Frame) (check : Nat) : Nat :=
  match f with
  | .picture _ _ _ _ bytes => (check + (bytes.map (·.toNat)).sum % 65536) % 65536
  | _ => check

theorem accumulate_check (f : Frame) (q : Port) : accumulate f q = { q with bandCheck := checkAfter f q.bandCheck } := by
  cases f with
  | picture pic line tones time bytes => rw [accumulate, lineCheck_eq, checkAfter]
  | _ => rfl

/-- R113: the item of the frame joins the list, unless it was dropped. -/
theorem endTransfer_eq (x : Transfer) (bytes : List Byte) (l : Link) : endTransfer x bytes l = { l with
    outstanding := l.outstanding ++ (if x.dropped then [] else (itemOf x.frame).toList), lastFrame := bytes
    transfer := l.frames.head?.map fun f => { frame := f }, frames := l.frames.tail } := by
  unfold endTransfer
  cases itemOf x.frame <;> cases x.dropped <;> rfl

/-- R111, R118: the port whose frame `x` has reached its end, before the hand-over counts. -/
def carried (x : Transfer) (q : Port) : Port :=
  { q with
    bandCheck := checkAfter x.frame q.bandCheck
    link := { q.link with
      outstanding := q.link.outstanding ++ (if x.dropped then [] else (itemOf x.frame).toList), lastFrame := frameBytes x.frame
      transfer := q.link.frames.head?.map fun f => { frame := f }, frames := q.link.frames.tail } }

theorem frameEnd_eq {p : PortNo} {s : State} {x : Transfer} (transfer : s.ports[p].link.transfer = some x) :
    frameEnd p s = service p { s with
      store := mapWays (unpinnedBy p x.frame) s.store
      ports := s.ports.set p
        (if x.orphan then carried x s.ports[p] else handOver x.frame x.dropped (carried x s.ports[p])) } := by
  simp only [frameEnd, transfer, unpinFrame_eq, modLink, modPort_modPort, accumulate_check, endTransfer_eq]
  cases x.orphan with
  | true => rfl
  | false =>
    simp only [Bool.false_eq_true, if_false]
    rfl

/-! ### The hand-over -/

/-- R137: a PICTURE line counts as sent for the first time or again. -/
def countedLine (line : Nat) (x : Session) : Session :=
  { x with
    firstSent := if x.firstSent ≤ line then line + 1 else x.firstSent
    counts := { x.counts with
      firstSent := if x.firstSent ≤ line then bump max16 x.counts.firstSent else x.counts.firstSent
      repeated := if x.firstSent ≤ line then x.counts.repeated else bump max16 x.counts.repeated } }

/-- R137, log 11: a PICTURE line is counted, and moves the pass unless its item was dropped. -/
theorem pictureHanded_eq (line : Nat) (dropped : Bool) (q : Port) : pictureHanded line dropped q = { q with
    lineTimes := q.lineTimes.filter fun e => e.1 ≠ line
    session := if dropped then countedLine line q.session
      else { countedLine line q.session with nextLine := line + 1, lastHanded := some line } } := by
  by_cases first : q.session.firstSent ≤ line <;> cases dropped <;> simp [pictureHanded, countedLine, first]

/-! ### The bytes of frames -/

/-- R184: the bytes of a LINE frame. -/
theorem lineFrame_eq (kind : Byte) (time : Nat) (codes : List Nat) (fields : List Byte) : lineFrame kind time codes fields =
    [3, kind] ++ [BitVec.ofNat 8 time, BitVec.ofNat 8 (time / 256), BitVec.ofNat 8 (time / 65536), BitVec.ofNat 8 (time / 16777216)] ++
      [BitVec.ofNat 8 codes.length, BitVec.ofNat 8 (codes.length / 256)] ++
      codes.flatMap (fun n => [BitVec.ofNat 8 n, BitVec.ofNat 8 (n / 256)]) ++ fields := by
  rw [lineFrame, leBytes_four]
  rfl

/-- Settles O29: the end of the transfer changes the ways and the port, then the hand-over goes by the kind of frame, as do the bytes. -/
theorem frameTransfersEnd : Obligations.FrameTransfersEnd := by
  refine ⟨fun t s p x running transfer => ?ends, fun q dropped => ?counts, ?bytes⟩
  case ends =>
    intro a q unpin check v
    rw [show exec (.frameTransferEnd t p) s = _ from act_running t (frameEnd p) s running, frameEnd_eq (s := a) transfer]
    rfl
  case counts =>
    intro x h
    refine ⟨fun pic line tones time bytes => ?_, fun sync caption check pad => rfl, fun n tones time picSamples => rfl,
      fun tones time picSamples => rfl, fun band len check time => rfl, fun dest am white black continued band starts time f plain => ?_⟩
    · intro first counted w
      have handed : h (.picture pic line tones time bytes) = _ := pictureHanded_eq line dropped q
      refine ⟨fun drops => ?_, fun stays => ?_⟩
      · rw [handed, drops]
        rfl
      · rw [handed, stays]
        rfl
    · simp only [List.mem_cons, List.not_mem_nil, or_false] at plain
      rcases plain with rfl | rfl | rfl | rfl | rfl | rfl | rfl | rfl <;> rfl
  case bytes =>
    intro b w2 w4 flag line
    have lines (kind : Byte) (time : Nat) (codes : List Nat) (fields : List Byte) :
        lineFrame kind time codes fields = line kind time codes fields := lineFrame_eq kind time codes fields
    exact ⟨fun _ => rfl, fun _ _ _ => rfl, fun _ _ _ _ => rfl, rfl, rfl, fun _ _ _ _ _ => lines .., fun _ _ _ _ => lines ..,
      fun _ _ _ => lines .., fun _ _ _ => lines .., fun _ _ _ _ => lines .., fun _ _ => lines .., fun _ => ⟨lines .., lines ..⟩⟩

end Sys2Proof.Machine
end

section
/-! PROOFS. What each operation on the drum leaves of its record: the record stays in order (O56). -/

namespace Sys2Proof.Machine

/-! ### Entering a state -/

/-- A drum that is not in FAULT has no cause. -/
theorem cause_of_drumOk {d : Drum} (ok : drumOk d) (noFault : d.state ≠ .fault) : d.cause = .noFault := by
  obtain ⟨-, cause, -⟩ := ok
  exact not_not.1 fun isCause => noFault (cause.1 isCause)

/-- R59: a drum without a cause is in order in STOPPING: every timer but the coast timer is stopped. -/
theorem drumOk_enterStopping {d : Drum} (now : Nat) (cause : d.cause = .noFault) : drumOk (enterStopping now d) := by
  simp [drumOk, enterStopping, stopCarriage, lampOff, looping, integralMin, integralMax, cause]

/-- R60: the drum is in order in FAULT: every timer is stopped, and the cause stands. -/
theorem drumOk_enterFault {cause : FaultCause} (isCause : cause ≠ .noFault) (d : Drum) : drumOk (enterFault cause d) := by
  simp [drumOk, enterFault, stopCarriage, lampOff, looping, integralMin, integralMax, isCause]

/-- R51: the drum is in order in SPINUP: the stall and the spin-up timer run. The lamp is what it was. -/
theorem drumOk_enterSpinUp {d : Drum} (c : DrumSettings) (rpm now : Nat) (lamp : d.settle.isSome ↔ d.lamp = .warming) :
    drumOk (enterSpinUp c rpm now d) := by
  simp [drumOk, enterSpinUp, looping, integralMin, integralMax, lamp]

/-- R59: a drum that was STOPPING is in order in STOPPED. -/
theorem drumOk_enterStopped {d : Drum} (ok : drumOk d) (stopping : d.state = .stopping) : drumOk (enterStopped d) := by
  obtain ⟨still, cause, stall, spinUp, slip, -, idle, good, lamp, range⟩ := ok
  simp only [stopping, reduceCtorEq, false_and, iff_false] at still cause stall spinUp slip idle good
  exact ⟨fun _ => still rfl, iff_of_false cause nofun, stall, iff_of_false spinUp nofun, iff_of_false slip nofun,
    iff_of_false nofun nofun, iff_of_false idle (by simp [enterStopped]), ⟨good.1, iff_of_false good.2 nofun⟩, lamp, range⟩

/-- R62: the lamp goes off with its settle timer. -/
theorem drumOk_lampOff {d : Drum} (ok : drumOk d) : drumOk (lampOff d) := by
  obtain ⟨still, cause, stall, spinUp, slip, coast, idle, good, -, range⟩ := ok
  exact ⟨still, cause, stall, spinUp, slip, coast, idle, good, by simp [lampOff], range⟩

/-- R62: a lamp that is off warms up until its settle timer expires. -/
theorem drumOk_lampTake {d : Drum} (c : DrumSettings) (now : Nat) (ok : drumOk d) : drumOk (lampTake c now d) := by
  obtain ⟨still, cause, stall, spinUp, slip, coast, idle, good, lamp, range⟩ := ok
  unfold lampTake
  split
  · exact ⟨still, cause, stall, spinUp, slip, coast, idle, good, by simp, range⟩
  · exact ⟨still, cause, stall, spinUp, slip, coast, idle, good, lamp, range⟩

/-- R62: the lamp that has warmed up is READY, its settle timer stopped. -/
theorem drumOk_lampReady {d : Drum} (ok : drumOk d) : drumOk { d with lamp := .ready, settle := none } := by
  obtain ⟨still, cause, stall, spinUp, slip, coast, idle, good, -, range⟩ := ok
  exact ⟨still, cause, stall, spinUp, slip, coast, idle, good, by simp, range⟩

/-- R58: a drum that is LOCKED and holds no scan runs its idle spin timer, or is STOPPING where that time is 0. -/
theorem drumOk_startIdleSpin {d : Drum} (c : DrumSettings) (now : Nat) (ok : drumOk { d with scanHeld := true, idleSpin := none })
    (locked : d.state = .locked) (free : d.scanHeld = false) : drumOk (startIdleSpin c now d) := by
  have cause := cause_of_drumOk ok (by simp [locked])
  obtain ⟨still, isCause, stall, spinUp, slip, coast, -, good, lamp, range⟩ := ok
  unfold startIdleSpin
  split
  · exact drumOk_enterStopping now cause
  · exact ⟨still, isCause, stall, spinUp, slip, coast, by simp [locked, free], good, lamp, range⟩

/-! ### The speed loop -/

theorem loopIntegral_range (i e : Int) : integralMin ≤ loopIntegral i e ∧ loopIntegral i e ≤ integralMax := by
  simp only [loopIntegral, clampInt, integralMin, integralMax]
  omega

/-- R52: a tach pulse in a loop state restarts the stall timer, and the integral stays in its range. -/
theorem drumOk_tachLoop {d : Drum} (c : DrumSettings) (now : Nat) (ok : drumOk d) (spins : looping d.state = true) :
    drumOk (tachLoop c now d) := by
  obtain ⟨still, cause, -, spinUp, slip, coast, idle, good, lamp, range⟩ := ok
  unfold tachLoop
  dsimp only
  split
  · exact ⟨still, cause, by simp [spins], spinUp, slip, coast, idle, good, lamp, range⟩
  · exact ⟨by simp [spins], cause, by simp [spins], spinUp, slip, coast, idle, good, lamp, loopIntegral_range _ _⟩

/-- R53: a tach pulse in STOPPING restarts the coast timer. -/
theorem drumOk_coast {d : Drum} (e : Nat) (ok : drumOk d) (stopping : d.state = .stopping) : drumOk { d with coast := some e } := by
  obtain ⟨still, cause, stall, spinUp, slip, -, idle, good, lamp, range⟩ := ok
  exact ⟨still, cause, stall, spinUp, slip, by simp [stopping], idle, good, lamp, range⟩

/-! ### Lock -/

/-- R54: a LOCKED drum enters SLIPPED: the slip timer starts, and an idle spin timer stops. -/
theorem drumOk_enterSlipped {d : Drum} (now : Nat) (ok : drumOk d) (locked : d.state = .locked) : drumOk (enterSlipped now d) := by
  have cause : d.cause = .noFault := cause_of_drumOk ok (by simp [locked])
  obtain ⟨-, -, stall, spinUp, -, coast, -, -, lamp, range⟩ := ok
  rw [locked] at stall spinUp coast
  exact ⟨nofun, by simp [enterSlipped, cause], stall, by simpa [enterSlipped] using spinUp, by simp [enterSlipped],
    by simpa [enterSlipped] using coast, by simp [enterSlipped], by simp [enterSlipped], lamp, range⟩

/-- R54, R58: a drum in SPINUP or SLIPPED enters LOCKED: their timers stop, and with no scan held the idle spin timer starts. -/
theorem drumOk_enterLocked {d : Drum} (c : DrumSettings) (now : Nat) (ok : drumOk d) (seeks : d.state = .spinUp ∨ d.state = .slipped) :
    drumOk (enterLocked c now d) := by
  have cause : d.cause = .noFault := cause_of_drumOk ok (by rintro fault; simp [fault] at seeks)
  have spins : looping d.state = true := (looping_iff d.state).2 (seeks.imp_right .inr)
  have free : d.idleSpin = none := by
    obtain ⟨-, -, -, -, -, -, idle, -⟩ := ok
    rcases seeks with state | state <;> simpa [state] using idle
  have stopped : d.coast = none := by
    obtain ⟨-, -, -, -, -, coast, -⟩ := ok
    rcases seeks with state | state <;> simpa [state] using coast
  obtain ⟨-, -, stall, -, -, -, -, -, lamp, range⟩ := ok
  have held : drumOk { d with
      state := .locked, goodRun := 3, spinUp := none, slip := none, scanHeld := true, idleSpin := none } :=
    ⟨nofun, by simp [cause], stall.trans (iff_of_true spins rfl), by simp, by simp, by simp [stopped], by simp, by simp, lamp, range⟩
  unfold enterLocked
  dsimp only
  split
  next isHeld =>
    simp only [isHeld, free]
    exact held
  next notHeld => exact drumOk_startIdleSpin c now held rfl (by simpa using notHeld)

/-- R54: the run of good periods in SPINUP and SLIPPED stays below 3. -/
theorem drumOk_goodRun {d : Drum} (n : Nat) (ok : drumOk d) (below : n < 3) (seeks : d.state ≠ .locked) : drumOk { d with goodRun := n } := by
  obtain ⟨still, cause, stall, spinUp, slip, coast, idle, -, lamp, range⟩ := ok
  exact ⟨still, cause, stall, spinUp, slip, coast, idle, ⟨below.le, by simp [below.ne, seeks]⟩, lamp, range⟩

/-- R54: the lock decision in a loop state. -/
theorem drumOk_lockDecision {d : Drum} (c : DrumSettings) (now period : Nat) (ok : drumOk d) (spins : looping d.state = true) :
    drumOk (lockDecision c now period d) := by
  unfold lockDecision
  dsimp only
  split
  next locked =>
    split
    · exact ok
    · exact drumOk_enterSlipped now ok locked
  next seeks =>
    split
    · split
      · refine drumOk_enterLocked c now ok ?_
        rw [looping_iff] at spins
        simpa [seeks] using spins
      next below => exact drumOk_goodRun _ ok (by omega) seeks
    · exact drumOk_goodRun 0 ok (by decide) seeks

/-- R54: an index pulse in a loop state. -/
theorem drumOk_indexDecision {d : Drum} (c : DrumSettings) (now : Nat) (ok : drumOk d) (spins : looping d.state = true) :
    drumOk (indexDecision c now d) := by
  unfold indexDecision
  dsimp only
  split
  · exact ok
  next t _ => exact drumOk_lockDecision (d := { d with lastIndex := some now, tMeas := t }) c now t ok spins

/-! ### The taking and the end of a scan -/

/-- R51: the drum holds the scan; it spins on or enters SPINUP. -/
theorem drumOk_drumTake {d : Drum} (c : DrumSettings) (rpm now : Nat) (ok : drumOk d) : drumOk (drumTake c rpm now d) := by
  obtain ⟨still, cause, stall, spinUp, slip, coast, -, good, lamp, range⟩ := ok
  rw [drumTake_eq]
  split
  · exact ⟨still, cause, stall, spinUp, slip, coast, by simp, good, lamp, range⟩
  · exact drumOk_enterSpinUp c rpm now lamp

theorem drumOk_carriageTake {d : Drum} (advance now : Nat) (ok : drumOk d) : drumOk (carriageTake advance now d) := by
  rw [carriageTake_eq]
  exact ok

/-- A drum that is not LOCKED is in order whether it holds a scan or not. -/
theorem drumOk_scanHeld {d : Drum} (b : Bool) (ok : drumOk d) (unlocked : d.state ≠ .locked) : drumOk { d with scanHeld := b } := by
  obtain ⟨still, cause, stall, spinUp, slip, coast, idle, good, lamp, range⟩ := ok
  exact ⟨still, cause, stall, spinUp, slip, coast, by simpa [unlocked] using idle, good, lamp, range⟩

/-- R61: the drum at a scan end stops, idles or stays; a drum fault leaves it where it is, which is not LOCKED. -/
theorem drumOk_drumScanEnd {d : Drum} (c : DrumSettings) (st : PicState) (cut : CutCause) (now : Nat) (ok : drumOk d)
    (fault : st = .cut → cut = .drumFault → d.state ≠ .locked) : drumOk (drumScanEnd c st cut now d) := by
  have freed (unlocked : d.state ≠ .locked) : drumOk (lampOff { d with scanHeld := false }) :=
    drumOk_lampOff (drumOk_scanHeld false ok unlocked)
  unfold drumScanEnd
  dsimp only
  split
  · split
    next spins =>
      have cause : d.cause = .noFault := cause_of_drumOk ok fun isFault => by
        simp only [lampOff, isFault] at spins
        exact absurd spins (by decide)
      exact drumOk_enterStopping now cause
    next still => exact freed fun locked => still (by simp [lampOff, locked, looping])
  · split
    next isFault => exact freed (fault isFault.1 isFault.2)
    next =>
      split
      next locked =>
        refine drumOk_startIdleSpin c now ?_ locked rfl
        obtain ⟨still, cause, stall, spinUp, slip, coast, -, good, lamp, range⟩ := drumOk_lampOff ok
        exact ⟨still, cause, stall, spinUp, slip, coast, by simp, good, lamp, range⟩
      next unlocked => exact freed unlocked

/-! ### The carriage -/

theorem drumOk_carriageAccept {d : Drum} (t0 v n : Nat) (ok : drumOk d) : drumOk (carriageAccept t0 v n d) := by
  unfold carriageAccept
  split <;> exact ok

theorem drumOk_homingStep {d : Drum} (now : Nat) (ok : drumOk d) : drumOk (homingStep now d) := by
  unfold homingStep
  split
  · split <;> exact ok
  · exact ok

theorem drumOk_carriageStep {d : Drum} (now : Nat) (ok : drumOk d) : drumOk (carriageStep now d) := by
  unfold carriageStep
  split
  · split <;> exact ok
  · exact ok

end Sys2Proof.Machine
end

section
/-! PROOFS. The drum's record and the settings over the operations that the drum, the pipeline and the memory path are made of
(O56, O59). -/

namespace Sys2Proof.Machine

/-! ### Steady events -/

/-- R55, R87, R125, R128, R154, R168: the invariant of O59. -/
def InRange (s : State) : Prop := SettingsInv s ∧ RingInv s

/-- An event that keeps the drum's record in order, and one that keeps the settings and the ring in their ranges. -/
structure Steady (a b : State) : Prop where
  drum : drumOk a.drum → drumOk b.drum
  inRange : InRange a → InRange b

/-- What both invariants stand on: the drum, the settings in force and being read, and the length of the ring. -/
def governed (s : State) : Drum × Setup × Setup × Nat := (s.drum, s.cfg, s.loader.block, s.composer.filled.length)

theorem InRange.of_settings {a b : State} (settings : (governed b).2 = (governed a).2) (within : InRange a) : InRange b := by
  simp only [governed, Prod.mk.injEq] at settings
  obtain ⟨cfg, block, ring⟩ := settings
  simpa only [InRange, SettingsInv, RingInv, cfg, block, ring] using within

/-- An event that changes the drum alone of what the invariants stand on. -/
theorem Steady.of_drum {a b : State} (ok : drumOk a.drum → drumOk b.drum) (settings : (governed b).2 = (governed a).2) : Steady a b :=
  ⟨ok, .of_settings settings⟩

/-- An event that leaves what the invariants stand on alone. -/
theorem Steady.of_governed {a b : State} (h : governed b = governed a) : Steady a b :=
  .of_drum (fun ok => (show b.drum = a.drum from congrArg Prod.fst h) ▸ ok) (congrArg Prod.snd h)

theorem governed_of_sessionPart {a b : State} (h : sessionPart b = sessionPart a) : governed b = governed a := by
  have parts : governed (sessionPart b) = governed (sessionPart a) := by rw [h]
  exact parts

theorem drum_of_sessionPart {a b : State} (h : sessionPart b = sessionPart a) : b.drum = a.drum :=
  congrArg Prod.fst (governed_of_sessionPart h)

theorem Steady.of_sessionPart {a b : State} (h : sessionPart b = sessionPart a) : Steady a b :=
  .of_governed (governed_of_sessionPart h)

theorem Steady.refl (s : State) : Steady s s := ⟨id, id⟩

theorem Steady.trans {a b c : State} (ab : Steady a b) (bc : Steady b c) : Steady a c :=
  ⟨bc.drum ∘ ab.drum, bc.inRange ∘ ab.inRange⟩

/-- `Steady.trans` from the last event back, as a composition of operations is written. -/
theorem Steady.after {a b c : State} (bc : Steady b c) (ab : Steady a b) : Steady a c := ab.trans bc

theorem Steady.ite {p : Prop} [Decidable p] {a b c : State} (yes : p → Steady a b) (no : ¬p → Steady a c) :
    Steady a (if p then b else c) := by
  split
  case isTrue h => exact yes h
  case isFalse h => exact no h

theorem Steady.foldl {α : Type} {f : State → α → State} (each : ∀ x a, Steady x (f x a)) (l : List α) (s : State) :
    Steady s (l.foldl f s) := by
  induction l generalizing s with
  | nil => exact .refl s
  | cons a l ih => exact (each s a).trans (ih (f s a))

theorem Steady.forPorts {f : PortNo → State → State} (each : ∀ p x, sessionPart (f p x) = sessionPart x) (s : State) :
    Steady s (forPorts f s) := .of_sessionPart (sessionPart_forPorts f each s)

theorem steady_modDrum {f : Drum → Drum} {s : State} (ok : drumOk s.drum → drumOk (f s.drum)) : Steady s (modDrum f s) :=
  .of_drum ok rfl

theorem steady_modPipe (f : Pipeline → Pipeline) (s : State) : Steady s (modPipe f s) := .of_governed rfl
theorem steady_modPic (k : Fin 16) (f : PictureRecord → PictureRecord) (s : State) : Steady s (modPic k f s) := .of_governed rfl
theorem steady_modStore (f : LineStore → LineStore) (s : State) : Steady s (modStore f s) := .of_governed rfl
theorem steady_modCounts (p : PortNo) (f : Counts → Counts) (s : State) : Steady s (modCounts p f s) := .of_governed rfl
theorem steady_raise (c : Nat) (s : State) : Steady s (raise c s) := .of_governed rfl
theorem steady_endUnit (u : BusUnit) (s : State) : Steady s (endUnit u s) := .of_governed rfl
theorem steady_openJobs (n : Nat) (s : State) : Steady s (openJobs n s) := .of_governed rfl
theorem steady_judgeWriter (s : State) : Steady s (judgeWriter s) := .of_sessionPart (sessionPart_judgeWriter s)
theorem steady_orderOut (p : PortNo) (s : State) : Steady s (orderOut p s) := .of_sessionPart (sessionPart_orderOut p s)

/-! ### The end of a scan -/

/-- What telling the ports of a scan end leaves of what the drum goes by. -/
theorem told_scanEnd (k : Fin 16) (s : State) :
    (forPorts (tellScanEnd k) s).drum = s.drum ∧ (forPorts (tellScanEnd k) s).cfg = s.cfg ∧
    (forPorts (tellScanEnd k) s).now = s.now ∧ (forPorts (tellScanEnd k) s).pics[k].state = s.pics[k].state ∧
    (forPorts (tellScanEnd k) s).pics[k].cause = s.pics[k].cause := by
  have part := sessionPart_forPorts _ (sessionPart_tellScanEnd k) s
  obtain ⟨state, -, -, cause⟩ := fields_of_uncounted (uncounted_of_outline (outline_of_sessionPart part) k)
  exact ⟨drum_of_sessionPart part, congrArg (fun v => v.2.1) (governed_of_sessionPart part),
    congrArg Prod.snd (queueTime_of_sessionPart part), state, cause⟩

/-- R61, R86: the scan ends; where a drum fault has cut its picture the drum is not LOCKED. -/
theorem steady_scanEnd {k : Fin 16} {s : State}
    (fault : s.pics[k].state = .cut → s.pics[k].cause = .drumFault → s.drum.state ≠ .locked) : Steady s (scanEnd k s) := by
  obtain ⟨drum, -, -, state, cause⟩ := told_scanEnd k s
  refine .after (steady_modPipe _ _) (.after (steady_raise _ _) (.after (steady_modDrum fun ok => ?_)
    (.forPorts (sessionPart_tellScanEnd k) s)))
  refine drumOk_drumScanEnd _ _ _ _ ok ?_
  rwa [drum, state, cause]

/-- R27: a picture is cut; a cut for a drum fault finds the drum not LOCKED. -/
theorem steady_cutPicture {k : Fin 16} {cause : CutCause} {s : State} (fault : cause = .drumFault → s.drum.state ≠ .locked) :
    Steady s (cutPicture k cause s) := by
  refine .ite (fun _ => .after (steady_scanEnd fun _ isFault => fault ?_) (steady_modPic _ _ _)) fun _ => .refl s
  simpa only [Fin.getElem_fin, modPic_same] using isFault

theorem steady_completePicture (k : Fin 16) (s : State) : Steady s (completePicture k s) := by
  refine .ite (fun _ => .after (steady_scanEnd fun isCut => ?_) (steady_modPic _ _ _)) fun _ => .refl s
  simp only [Fin.getElem_fin, modPic_same, reduceCtorEq] at isCut

/-- R60: the drum enters FAULT, and then the picture of a held scan is cut. -/
theorem steady_drumFault {cause : FaultCause} (isCause : cause ≠ .noFault) (s : State) : Steady s (drumFault cause s) := by
  have faulted : Steady s (raise classDrum (modDrum (enterFault cause) s)) :=
    .after (steady_raise _ _) (steady_modDrum fun _ => drumOk_enterFault isCause s.drum)
  refine .ite (fun _ => .after (steady_cutPicture fun _ => ?_) faulted) fun _ => faulted
  exact nofun

/-! ### Revolutions -/

theorem steady_acceptLine (wb : Nat × Nat) (heldRef : Bool) (t0 v : Nat) (r : Revolution) (s : State) :
    Steady s (acceptLine wb heldRef t0 v r s) := by
  unfold acceptLine setHold
  exact .trans (.trans (steady_modPipe _ _) (steady_modDrum (drumOk_carriageAccept _ _ _)))
    (.ite (fun _ => steady_modPipe _ _) fun _ => .refl _)

theorem steady_referenceFault (t0 v : Nat) (r : Revolution) (s : State) : Steady s (referenceFault t0 v r s) := by
  unfold referenceFault
  refine .trans (steady_modPipe _ _) (.ite (fun _ => steady_cutPicture nofun) fun _ => ?_)
  split
  · exact steady_acceptLine _ _ _ _ _ _
  · exact .refl _

theorem steady_judgeRev (a b : Option DrumState) (t0 v : Nat) (s : State) : Steady s (judgeRev a b t0 v s) := by
  unfold judgeRev
  split
  · exact .refl s
  · exact .ite (fun _ => .refl s) fun _ => .ite (fun _ => .refl s) fun _ => .ite (fun _ => .refl s) fun _ =>
      .ite (fun _ => steady_acceptLine _ _ _ _ _ s) fun _ => steady_referenceFault _ _ _ s

theorem steady_advanceWaits (s : State) : Steady s (advanceWaits s) := by
  unfold advanceWaits
  split
  · exact .refl s
  · exact .trans (steady_modPipe _ _) (.foldl (fun x (a : Awaited) => steady_orderOut a.port x) _ _)

theorem steady_startScan (t0 v : Nat) (s : State) : Steady s (startScan t0 v s) :=
  .after (steady_modPipe _ _) (.after (.forPorts sessionPart_joinLive _) (steady_modPipe _ _))

theorem steady_revolution (a b : Option DrumState) (t0 v : Nat) (s : State) : Steady s (revolution a b t0 v s) := by
  unfold revolution
  split
  · exact .refl s
  · exact .ite (fun _ => steady_startScan t0 v s) fun _ => .refl s
  · exact .trans (steady_judgeRev a b t0 v s)
      (.ite (fun _ => .trans (steady_advanceWaits _) (steady_modPipe _ _)) fun _ => .refl _)

/-! ### The commands of the drum head -/

theorem steady_lockChange (st : DrumState) (s : State) : Steady s (lockChange st s) := by
  refine .ite (fun _ => .ite (fun _ => steady_modPipe _ s) fun _ => .refl s) fun _ =>
    .ite (fun _ => .trans (steady_modPipe _ s) (.foldl (fun x p => ?_) _ _)) fun _ => .refl s
  exact .ite (fun _ => steady_orderOut p x) fun _ => .refl x

theorem steady_indexPulse {s : State} (spins : looping s.drum.state = true) : Steady s (indexPulse s) := by
  have decided : Steady s { s with drum := indexDecision s.cfg.drum s.now s.drum } :=
    .of_drum (fun ok => drumOk_indexDecision _ _ ok spins) rfl
  exact decided.trans (.trans (.ite (fun _ => steady_lockChange _ _) fun _ => .refl _)
    (.ite (fun _ => steady_revolution _ _ _ _ _) fun _ => .refl _))

theorem steady_tachPulse (s : State) : Steady s (tachPulse s) :=
  .ite (fun spins => steady_modDrum fun ok => drumOk_tachLoop _ _ ok spins) fun _ =>
    .ite (fun stopping => steady_modDrum fun ok => drumOk_coast _ ok stopping) fun _ => .refl s

/-- R58: the idle spin timer runs only in LOCKED. -/
theorem steady_idleSpinExpiry {s : State} (expired : due s.drum.idleSpin s.now = true) :
    Steady s (modDrum (enterStopping s.now) s) := by
  refine steady_modDrum fun ok => drumOk_enterStopping _ (cause_of_drumOk ok ?_)
  obtain ⟨-, -, -, -, -, -, idle, -⟩ := ok
  cases runs : s.drum.idleSpin with
  | none => simp [due, runs] at expired
  | some e => simp [(idle.1 (by simp [runs])).1]

/-- R59: the coast timer runs only in STOPPING. -/
theorem steady_coastExpiry {s : State} (expired : due s.drum.coast s.now = true) : Steady s (modDrum enterStopped s) := by
  refine steady_modDrum fun ok => drumOk_enterStopped ok ?_
  obtain ⟨-, -, -, -, -, coast, -⟩ := ok
  cases runs : s.drum.coast with
  | none => simp [due, runs] at expired
  | some e => exact coast.1 (by simp [runs])

theorem steady_openCover (s : State) : Steady s (openCover s) :=
  .ite (fun _ => .refl s) fun _ => .trans (steady_modDrum (f := fun d => { d with coverOpen := true }) id)
    (.ite (fun _ => .refl _) fun _ => steady_drumFault (by decide) _)

theorem steady_settleLamp (s : State) : Steady s (settleLamp s) :=
  .ite (fun _ => .trans (steady_modDrum drumOk_lampReady) (steady_modPipe _ _)) fun _ => .refl s

theorem steady_closeHome (s : State) : Steady s (closeHome s) :=
  .trans (steady_modDrum
      (f := fun d => { d with homeClosed := true, carriage := if isHoming s.drum.carriage then .known 0 else d.carriage }) id)
    (.ite (fun _ => steady_modPipe _ _) fun _ => .refl _)

theorem steady_startLimitExpiry (s : State) : Steady s (startLimitExpiry s) := by
  unfold startLimitExpiry
  split
  · exact .ite (fun _ => .trans (steady_modPipe _ _) (.foldl (fun x p => steady_orderOut p x) _ _)) fun _ => .refl s
  · exact .refl s

/-- R51, R62, R64, R95: the drum takes a SCAN job. -/
theorem steady_takeScan (id : Nat) (k : Fin 16) (rpm advance : Nat) (live : List PortNo) (s : State) :
    Steady s (takeScan id k rpm advance live s) := by
  rw [takeScan_eq id k rpm advance live s _ _ rfl rfl]
  exact .of_drum (fun ok => drumOk_carriageTake _ _ (drumOk_lampTake _ _ (drumOk_drumTake _ _ _ ok))) rfl

end Sys2Proof.Machine
end

section
/-! PROOFS. The settings of a block that is read and adopted are in their ranges (O59). -/

namespace Sys2Proof.Machine

/-! ### The parts of a block -/

/-- R168: a value that is limited lies in its range. -/
theorem limit_range {lo hi : Nat} (x : Nat) (range : lo ≤ hi) : lo ≤ (limit lo hi x).1 ∧ (limit lo hi x).1 ≤ hi := by
  simp only [limit, clamp]
  omega

theorem limit_le (hi x : Nat) : (limit 0 hi x).1 ≤ hi := (limit_range x (Nat.zero_le hi)).2

theorem byteAt_le (r : List Byte) (i : Nat) : byteAt r i ≤ 255 := Nat.le_of_lt_succ (r.getD i 0).isLt

theorem limitBand_cases (x : Nat) : (limitBand x).1 = 16 ∨ (limitBand x).1 = 32 ∨ (limitBand x).1 = 64 := by
  simp only [limitBand]
  split_ifs <;> simp

/-- R168: part 4 is read into its ranges. -/
theorem drumSettingsOk_readDrum (r : List Byte) : drumSettingsOk (readDrum r).1 := by
  refine ⟨limit_le _ _, limit_le _ _, limit_le _ _, byteAt_le _ _, byteAt_le _ _, limit_range _ (by decide), limit_le _ _,
    limit_range _ (by decide), limit_range _ (by decide), limit_range _ (by decide), by simp [readDrum], fun x isPoint => ?_⟩
  obtain ⟨i, -, rfl⟩ := List.mem_map.1 isPoint
  exact byteAt_le _ _

/-- R168: parts 5 to 8 are read into their ranges; AM decides that of the white and black codes. -/
theorem portSettingsOk_readPort (r : List Byte) : portSettingsOk (readPort r).1 := by
  refine ⟨fun fm => ?_, fun am => ?_, limitBand_cases _, limit_range _ (by decide), limit_range _ (by decide),
    limit_range _ (by decide), limit_range _ (by decide), limit_le _ _, limit_le _ _⟩
  · have isFm : (limitBit (byteAt r 1)).1 = false := fm
    simp only [readPort, isFm, Bool.false_eq_true, if_false]
    exact ⟨limit_range _ (by decide), limit_range _ (by decide)⟩
  · have isAm : (limitBit (byteAt r 1)).1 = true := am
    simp only [readPort, isAm, if_true]
    exact ⟨limit_le _ _, limit_le _ _⟩

/-- R168: each part that is read keeps the block in its ranges. -/
theorem settingsOk_takePart {l : Loader} (part : Nat) (r : List Byte) (ok : settingsOk l.block) :
    settingsOk (takePart l part r).block := by
  obtain ⟨drum, ports⟩ := ok
  unfold takePart
  split
  · exact ⟨drum, ports⟩
  · exact ⟨drum, ports⟩
  · exact ⟨drum, ports⟩
  · exact ⟨drumSettingsOk_readDrum r, ports⟩
  · split
    · refine ⟨drum, fun p => ?_⟩
      simp only [Fin.getElem_fin, Vector.getElem_set]
      split
      · exact portSettingsOk_readPort r
      · exact ports p
    · exact ⟨drum, ports⟩

/-! ### Adoption -/

/-- R165: the adopted ring has one mark for each slot: it is new, or its capacity is what it was. -/
theorem length_adoptComposer {old new : Setup} {c : Composer} (serial : Nat) (ring : c.filled.length = old.ringCapacity) :
    (adoptComposer old new serial c).filled.length = new.ringCapacity := by
  unfold adoptComposer
  dsimp only
  split
  · exact List.length_replicate
  next same =>
    simp only [ringDiffers, Bool.or_eq_true, bne_iff_ne, ne_eq, not_or, not_not] at same
    exact ring.trans same.2

/-- R170: the block that has been read becomes the setup in force. -/
theorem InRange.adopt {l : Loader} {s : State} (within : InRange s) (block : settingsOk l.block) : InRange (adopt l s) := by
  refine (steady_judgeWriter _).inRange ?_
  obtain ⟨⟨-, reading⟩, ring⟩ := within
  exact ⟨⟨block, reading⟩, length_adoptComposer l.serial ring⟩

theorem InRange.loader {l : Loader} {s : State} (within : InRange s) (block : settingsOk l.block) : InRange { s with loader := l } :=
  ⟨⟨within.1.1, block⟩, within.2⟩

/-- R167: after a part the load is refused or goes on, or the block is adopted. -/
theorem InRange.afterPart {l : Loader} {s : State} (part : Nat) (within : InRange s) (block : settingsOk l.block) :
    InRange (afterPart part l s) := by
  unfold Machine.afterPart
  split
  · exact within.loader block
  · split
    · exact within.loader block
    · split
      · exact within.loader block
      · exact (within.adopt block).loader block

theorem drum_judgeWriter (s : State) : (judgeWriter s).drum = s.drum := drum_of_sessionPart (sessionPart_judgeWriter s)

theorem drum_adopt (l : Loader) (s : State) : (adopt l s).drum = s.drum := drum_judgeWriter _

theorem drum_afterPart (part : Nat) (l : Loader) (s : State) : (afterPart part l s).drum = s.drum := by
  unfold afterPart
  split
  · rfl
  · split
    · rfl
    · split
      · rfl
      · exact drum_adopt l s

theorem steady_endSetupPart (s : State) : Steady s (endSetupPart s) := by
  unfold endSetupPart
  split
  · refine ⟨fun ok => ?_, fun within => ?_⟩
    · rw [drum_afterPart]
      exact ok
    · exact ((steady_endUnit _ s).inRange within).afterPart _ (settingsOk_takePart _ _ within.1.2)
  · exact .refl s

/-- R167: a load begins with the settings of a block not yet read. -/
theorem steady_startLoad (s : State) : Steady s (startLoad s) :=
  .ite (fun _ => ⟨id, fun within => within.loader settingsOk_default⟩) fun _ => .refl s

theorem steady_endLoadResult (s : State) : Steady s (endLoadResult s) := by
  unfold endLoadResult
  split <;> exact .of_governed rfl

end Sys2Proof.Machine
end

section
/-! PROOFS. The memory path, the part's own units, Job Intake, and so every command keep the drum's record in order and the settings in
their ranges (O56, O59). -/

namespace Sys2Proof.Machine

/-! ### The memory path -/

theorem steady_grantDesk (s : State) : Steady s (grantDesk s) := by
  unfold grantDesk
  split
  · exact .refl s
  · dsimp only
    split <;> exact .of_governed rfl

theorem steady_grant (r : Requester) (s : State) : Steady s (grant r s) := by
  cases r with
  | desk => exact steady_grantDesk s
  | scanWriter =>
    simp only [grant, grantScanLine]
    split <;> exact .of_governed rfl
  | lineFetch p =>
    simp only [grant, grantFetch]
    split
    · exact .refl s
    · split <;> exact .of_governed rfl
  | statusWriter =>
    simp only [grant, grantStatus]
    split <;> exact .of_governed rfl
  | intakeReader | setupLoader | slipWriter | trailerWriter => exact .of_governed rfl

theorem steady_arbitrate (s : State) : Steady s (arbitrate s) := by
  refine .ite (fun _ => ?_) fun _ => .refl s
  split
  · exact steady_grant _ s
  · exact .refl s

theorem steady_endForward {read : Bool} {want : WatchEvent → Bool} {f : WatchEvent → State → State}
    (each : ∀ e x, Steady x (f e x)) (s : State) : Steady s (endForward read want f s) := by
  unfold endForward
  split
  · exact .ite (fun _ => .refl s) fun _ => .after (each _ _) (.of_governed rfl)
  · exact .refl s

theorem steady_postSlot (j : Nat) (s : State) : Steady s (postSlot j s) := .ite (fun _ => .refl s) fun _ => .of_governed rfl

/-- R161: a slot that is taken keeps its place in the ring. -/
theorem steady_takeSlot (i : Nat) (s : State) : Steady s (takeSlot i s) := by
  refine .after (steady_judgeWriter _) (.of_governed ?_)
  simp only [governed, List.length_set]

theorem steady_endUpkeep (composed : List Nat) (s : State) : Steady s (endUpkeep composed s) := by
  unfold endUpkeep
  split
  · exact .after (.forPorts (sessionPart_tellAltered _ _) _) (.after (steady_modPic _ _ _) (.after (steady_modStore _ _)
      (.after (.forPorts (sessionPart_patchTransfer _ _ _ _ _ _) _) (.of_governed rfl))))
  · exact .refl s

/-! ### The part's own units -/

theorem steady_advanceMark (e : LineEntry) (s : State) : Steady s (advanceMark e s) :=
  .after (steady_completePicture _ _) (.after (.of_sessionPart (sessionPart_told e _)) (steady_modPic _ _ _))

theorem steady_endScanLine (s : State) : Steady s (endScanLine s) := by
  unfold endScanLine
  split
  · split
    · exact steady_endUnit _ s
    · exact .after (steady_modPipe _ _) (.after (.ite (fun _ => steady_advanceMark _ _) fun _ => .refl _) (steady_endUnit _ s))
  · exact .refl s

theorem steady_joinTrailers (f : LineFailure) (s : State) : Steady s (joinTrailers f s) :=
  .ite (fun _ => .refl s) fun _ => .of_governed rfl

theorem steady_releaseHeldFailure (s : State) : Steady s (releaseHeldFailure s) := by
  unfold releaseHeldFailure
  split
  · exact .ite (fun _ => .after (steady_joinTrailers _ _) (steady_modStore _ s)) fun _ => .refl s
  · exact .refl s

theorem steady_failFetch (p : PortNo) (stood : Bool) (f : LineFailure) (s : State) : Steady s (failFetch p stood f s) := by
  unfold failFetch passFailure
  exact .after (.ite (fun _ => steady_joinTrailers _ _) fun _ => steady_modStore _ _) (.after (steady_raise _ _)
    (.after (.ite (fun _ => steady_modCounts _ _ _) fun _ => .refl _) (.of_governed rfl)))

theorem steady_endFetch (p : PortNo) (pic : Fin 16) (line : Nat) (w : Bool) (trailerAddr : Nat) (dropped : Bool)
    (density trailer : List Byte) (s : State) : Steady s (endFetch p pic line w trailerAddr dropped density trailer s) := by
  refine .ite (fun _ => .after (.of_sessionPart (sessionPart_unjoin _ _ _)) (steady_modStore _ _)) fun _ => ?_
  exact .after (.of_sessionPart (sessionPart_answerWaiters _ _ _ _))
    (.after (.ite (fun _ => .refl _) fun _ => steady_failFetch _ _ _ _) (steady_modStore _ _))

theorem steady_endLineFetch (s : State) : Steady s (endLineFetch s) := by
  unfold endLineFetch
  split
  · exact .after (.forPorts sessionPart_service _) (.after (steady_endFetch _ _ _ _ _ _ _ _ _) (steady_endUnit _ s))
  · exact .refl s

theorem steady_endTrailerFlag (s : State) : Steady s (endTrailerFlag s) := by
  unfold endTrailerFlag
  split
  · exact .after (steady_releaseHeldFailure _) (.of_governed rfl)
  · exact .refl s

/-- R160: a slip that is written keeps its slot's place in the ring. -/
theorem steady_endSlipWrite (s : State) : Steady s (endSlipWrite s) := by
  unfold endSlipWrite
  split
  · dsimp only
    split
    · exact steady_endUnit _ s
    · refine .after (steady_judgeWriter _) (.after
        (.ite (fun _ => .of_sessionPart (sessionPart_portFreed _ _)) fun _ => .refl _) (.after (steady_raise _ _) (.of_governed ?_)))
      simp only [governed, slipWritten, List.length_set, endUnit_composer, endUnit_drum, endUnit_cfg, endUnit_loader]
  · exact .refl s

theorem steady_endStatusWrite (s : State) : Steady s (endStatusWrite s) := by
  unfold endStatusWrite
  split <;> exact .of_governed rfl

theorem steady_clockSecond (s : State) : Steady s (clockSecond s) := .ite (fun _ => .of_governed rfl) fun _ => .refl s

/-! ### Job Intake -/

theorem steady_dispatchScan (h : Hand) (id : Nat) (s : State) : Steady s (dispatchScan h id s) := by
  refine .after (steady_openJobs _ _) (.after (.foldl (fun x p => ?_) _ _) (.after (steady_takeScan _ _ _ _ _ _) (steady_modPic _ _ s)))
  exact .of_sessionPart ((sessionPart_activate _ _ _ _).trans (sessionPart_giveWay p x))

theorem steady_dispatchSend (h : Hand) (id : Nat) (s : State) : Steady s (dispatchSend h id s) := by
  have taken : Steady s (openJobs 1 (takeRef (recSlot h.record) s)) := .of_governed rfl
  refine taken.trans (.of_sessionPart ?_)
  simp only [dispatchSend, sessionPart_service, sessionPart_select, sessionPart_checkPreempt, sessionPart_modPort, jobOf]

theorem steady_releasePicture (k : Fin 16) (s : State) : Steady s (releasePicture k s) :=
  .after (steady_releaseHeldFailure _) (.trans (.forPorts (sessionPart_detachTransfer k) s) (.of_governed rfl))

theorem steady_abortPort (target : AbortTarget) (s : State) : Steady s (forPorts (abortPort target) s) :=
  .forPorts (sessionPart_abortPort target) s

theorem steady_dispatchHoldPort (h : Hand) (s : State) : Steady s (dispatchHoldPort h s) := by
  refine .ite (fun _ => .refl s) fun _ => .trans (.of_sessionPart ?_) (.ite (fun _ => .of_sessionPart ?_) fun _ => .refl _)
  · simp only [sessionPart_withdrawWaiting, sessionPart_modPort]
  · simp only [sessionPart_service, sessionPart_rejudge, sessionPart_withdrawLive]

theorem steady_dispatchResumePort (h : Hand) (s : State) : Steady s (dispatchResumePort h s) := by
  refine .ite (fun _ => .of_sessionPart ?_) fun _ => .refl s
  simp only [sessionPart_service, sessionPart_select, sessionPart_checkHead, sessionPart_resumeHeld, sessionPart_modPort]

theorem steady_dispatch (k : JobKind) (h : Hand) (id : Nat) (s : State) : Steady s (dispatch k h id s) := by
  cases k with
  | scan => exact steady_dispatchScan h id s
  | send => exact steady_dispatchSend h id s
  | abortJob => exact steady_abortPort (.id (recTarget h.record)) s
  | abortPicture =>
    show Steady s (forPorts (abortPort (.picture (recSlot h.record))) (cutPicture (recSlot h.record) .aborted s))
    exact .after (steady_abortPort _ _) (steady_cutPicture nofun)
  | releasePicture =>
    show Steady s (if s.pics[recSlot h.record].state = .empty then s else releasePicture (recSlot h.record) s)
    exact .ite (fun _ => .refl s) fun _ => steady_releasePicture _ s
  | holdPort => exact steady_dispatchHoldPort h s
  | resumePort => exact steady_dispatchResumePort h s

theorem steady_answer (h : Hand) (result : List Byte) (s : State) : Steady s (answer h result s) :=
  .ite (fun _ => .of_governed rfl) fun _ => .of_governed rfl

theorem steady_judgeJob (h : Hand) (s : State) : Steady s (judgeJob h s) := by
  unfold judgeJob
  split
  · exact .after (steady_answer _ _ _) (.after (steady_dispatch _ _ _ _) (.of_governed rfl))
  · exact steady_answer _ _ s
  · exact .refl s

theorem steady_finishRead (addr : Nat) (s : State) : Steady s (finishRead addr s) := .of_governed rfl

theorem steady_endJobRead (s : State) : Steady s (endJobRead s) := by
  unfold endJobRead
  split
  · dsimp only
    split
    · exact .after (steady_judgeJob _ _) (steady_finishRead _ s)
    · exact steady_finishRead _ s
  · exact .refl s

theorem steady_takenJob (k : JobKind) (s : State) : Steady s (takenJob k s) := by
  obtain same | ⟨addr, h, -, -, -, -, judged⟩ := takenJob_cases k s
  · rw [same]
    exact .refl s
  · rw [judged]
    exact .after (steady_judgeJob h _) (steady_finishRead addr s)

theorem steady_readerTake (s : State) : Steady s (readerTake s) := by
  unfold readerTake
  split
  · exact .ite (fun _ => .of_governed rfl) fun _ => .refl s
  · exact .refl s

theorem steady_endResultWrite (s : State) : Steady s (endResultWrite s) := by
  unfold endResultWrite
  split <;> exact .of_governed rfl

/-! ### Every command -/

theorem steady_expire (kind : TimerKind) (f : PortNo → State → State) (p : PortNo) (s : State)
    (plain : ∀ x, sessionPart (f p x) = sessionPart x) : Steady s (expire kind f p s) :=
  .of_sessionPart (sessionPart_expire kind f p s plain)

theorem steady_effectOf (c : Instr) (s : State) : Steady s (effectOf c s) := by
  cases c with
  | powerOn | warmReset | resetRelease | deskAccess | deskClockSecond | reportDiscarded => exact .refl s
  | arbiterGrant t => exact steady_arbitrate s
  | deskWrite | deskRead => exact steady_endForward (fun _ x => .refl x) s
  | postWordWrite t =>
    rw [effectOf]
    refine steady_endForward (fun e x => ?_) s
    cases e with
    | post j => exact steady_postSlot j x
    | _ => exact .refl x
  | markWordWrite t =>
    rw [effectOf]
    refine steady_endForward (fun e x => ?_) s
    cases e with
    | mark i => exact steady_takeSlot i x
    | _ => exact .refl x
  | loadWordWrite t => exact steady_endForward (fun _ x => steady_startLoad x) s
  | clearWordWrite t =>
    rw [effectOf]
    refine steady_endForward (fun e x => ?_) s
    cases e with
    | clear cs => exact .of_governed rfl
    | _ => exact .refl x
  | checkUpkeepUnitEnd t composed => exact steady_endUpkeep composed s
  | scanLineWriteEnd t => exact steady_endScanLine s
  | lineFetchEnd t => exact steady_endLineFetch s
  | trailerFlagUnitEnd t => exact steady_endTrailerFlag s
  | slipRecordWriteEnd t => exact steady_endSlipWrite s
  | statusRecordWriteEnd t => exact steady_endStatusWrite s
  | intakeReaderTake t => exact steady_readerTake s
  | jobRecordReadEnd t => exact steady_endJobRead s
  | scan | send | abortJob | abortPicture | releasePicture | holdPort | resumePort => exact steady_takenJob _ s
  | resultWordWriteEnd t => exact steady_endResultWrite s
  | setupPartReadEnd t => exact steady_endSetupPart s
  | loadResultWriteEnd t => exact steady_endLoadResult s
  | tachPulse t => exact steady_tachPulse s
  | indexPulse t => exact .ite (fun spins => steady_indexPulse spins) fun _ => .refl s
  | conversionRequest | codeReady => exact steady_modPipe _ s
  | stallTimerExpiry | spinUpTimerExpiry | slipTimerExpiry | homingLimitExpiry =>
    exact .ite (fun _ => steady_drumFault (by decide) s) fun _ => .refl s
  | idleSpinTimerExpiry t => exact .ite steady_idleSpinExpiry fun _ => .refl s
  | coastTimerExpiry t => exact .ite steady_coastExpiry fun _ => .refl s
  | coverOpen t => exact steady_openCover s
  | coverClose t => exact steady_modDrum (f := fun d => { d with coverOpen := false }) id
  | homeSwitchOpen t => exact steady_modDrum (f := fun d => { d with homeClosed := false }) id
  | settleTimerExpiry t => exact steady_settleLamp s
  | homingStep t => exact steady_modDrum (drumOk_homingStep _)
  | carriageStep t => exact steady_modDrum (drumOk_carriageStep _)
  | homeSwitchClose t => exact steady_closeHome s
  | startLimitTimerExpiry t => exact steady_startLimitExpiry s
  | frameTransferEnd t p => exact .of_sessionPart (sessionPart_frameEnd p s)
  | up t p => exact .of_sessionPart (sessionPart_takeUp p s)
  | fail t p cause => exact .of_sessionPart (sessionPart_takeFail p cause s)
  | doneItem t p => exact .of_sessionPart (sessionPart_takeDoneItem p s)
  | doneFlush t p => exact .of_sessionPart (sessionPart_takeDoneFlush p s)
  | slack t p => exact .of_sessionPart (sessionPart_takeSlack p s)
  | heard t p code duration data => exact .of_sessionPart (sessionPart_takeHeard p code duration.toNat data s)
  | ready t p | phased t p | goodA t p | goodB t p | again t p | wait t p | receipt t p | hang t p =>
    exact .of_sessionPart (sessionPart_hearSignal p _ _ s)
  | dropCarrier t p => exact .of_sessionPart (sessionPart_takeDropCarrier p s)
  | dropOnHook t p => exact .of_sessionPart (sessionPart_takeDropOnHook p s)
  | releaseTimerExpiry t p => exact .of_sessionPart (sessionPart_releaseExpiry p s)
  | seizeTimerExpiry t p =>
    exact steady_expire .seize (fun p => endSession p .lineFailed 0) p s (sessionPart_endSession p _ _)
  | readyTimerExpiry t p =>
    exact steady_expire .ready (fun p => endSession p .noAnswer 0) p s (sessionPart_endSession p _ _)
  | phasedTimerExpiry t p => exact steady_expire .phased phasedExpiry p s (sessionPart_phasedExpiry p)
  | verdictTimerExpiry t p => exact steady_expire .verdict verdictExpiry p s (sessionPart_verdictExpiry p)
  | waitTimerExpiry t p => exact steady_expire .wait waitExpiry p s (sessionPart_waitExpiry p)
  | quietTimerExpiry t p => exact steady_expire .quiet bandStart p s (sessionPart_bandStart p)
  | receiptTimerExpiry t p => exact steady_expire .receipt (fun p => endClose p false) p s (sessionPart_endClose p _)

theorem steady_noteChanges (a b : State) : Steady b (noteChanges a b) := by
  refine .of_governed ?_
  simp only [governed, noteChanges_drum, noteChanges_cfg, noteChanges_loader, noteChanges_composer]

/-- A reset state is in order, whatever stood before. -/
theorem steady_reset {b : State} (a : State) (same : governed b = governed State.reset) : Steady a b := by
  obtain ⟨-, drum, -, -, -, -, settings, ring⟩ := resetSatisfiesTheInvariants
  have reset : Steady State.reset b := .of_governed same
  exact ⟨fun _ => reset.drum drum, fun _ => reset.inRange ⟨settings, ring⟩⟩

/-- Every command keeps the drum's record in order and the settings in their ranges. -/
theorem steady_exec {s s' : State} {c : Instr} (next : exec c s = .next s') : Steady s s' := by
  have advanced (t : Nat) : Steady s (advance t s) := .of_governed rfl
  cases wraps : unwrapped c with
  | false =>
    rw [exec_effectOf c s wraps, act] at next
    cases next
    exact .ite (fun _ => advanced _) fun _ => .after (steady_noteChanges _ _) (.after (steady_effectOf c _) (advanced _))
  | true =>
    cases c with
    | powerOn t =>
      cases next
      exact steady_reset s rfl
    | warmReset t made =>
      cases next
      exact .ite (fun _ => advanced t) fun _ => steady_reset s rfl
    | resetRelease t straps coverOpen homeClosed =>
      cases next
      exact .ite (fun _ => .of_drum id rfl) fun _ => advanced t
    | deskAccess t a =>
      cases next
      exact .ite (fun _ => .of_governed rfl) fun _ => advanced t
    | deskClockSecond t =>
      cases next
      have second : Steady s (clockSecond (advance t s)) := .after (steady_clockSecond _) (advanced t)
      exact .ite (fun _ => second) fun _ => .after (steady_noteChanges _ _) second
    | _ => exact absurd wraps Bool.false_ne_true

theorem steady_step {s s' : State} (next : step s = .next s') : Steady s s' := by
  unfold step at next
  split at next
  · cases next
    exact .refl s
  next rest _ => exact .trans (.of_governed (b := { s with pending := rest }) rfl) (steady_exec next)

/-- Settles O56: every operation on the drum keeps its record in order, and every command is made of them. -/
theorem drumStaysInOrder : Obligations.DrumStaysInOrder :=
  fun _ _ ok next => (steady_step next).drum ok

/-- Settles O59: the settings change where a part is read or the block adopted, the ring where it is adopted. -/
theorem settingsAndRingStayInRange : Obligations.SettingsAndRingStayInRange :=
  fun _ _ settings ring next => (steady_step next).inRange ⟨settings, ring⟩

end Sys2Proof.Machine
end

section
/-! PROOFS. The end of a scan (O22), and the events of the drum head: its faults (O53) and all others (O54). -/

namespace Sys2Proof.Machine

/-! ### The end of a scan -/

/-- R61: the drum at a scan end, by the state it is in. -/
theorem drumScanEnd_eq (c : DrumSettings) (st : PicState) (cut : CutCause) (now : Nat) (d : Drum) : drumScanEnd c st cut now d =
    if st = .cut ∧ cut = .aborted then
      (if looping d.state = true then enterStopping now { d with scanHeld := false } else lampOff { d with scanHeld := false })
    else if (st = .cut ∧ cut = .drumFault) ∨ d.state ≠ .locked then lampOff { d with scanHeld := false }
    else if c.idleSpin = 0 then enterStopping now { d with scanHeld := false }
    else { lampOff { d with scanHeld := false } with idleSpin := some (now + c.idleSpin * 1000000) } := by
  unfold drumScanEnd
  dsimp only
  by_cases aborted : st = .cut ∧ cut = .aborted
  · rw [if_pos aborted, if_pos aborted]
    rfl
  rw [if_neg aborted, if_neg aborted]
  by_cases fault : st = .cut ∧ cut = .drumFault
  · rw [if_pos fault, if_pos (Or.inl fault)]
  rw [if_neg fault]
  by_cases locked : d.state = .locked
  · rw [if_pos (show (lampOff { d with scanHeld := false }).state = .locked from locked), if_neg (by simp [fault, locked])]
    rfl
  · rw [if_neg (show ¬(lampOff { d with scanHeld := false }).state = .locked from locked), if_pos (Or.inr locked)]

/-- Settles O22: the ports are told first, which leaves the drum, its settings and how the picture ended as they were. -/
theorem scanEnds : Obligations.ScanEnds := by
  intro s k x r d stopping
  obtain ⟨drum, cfg, now, state, cause⟩ := told_scanEnd k s
  have ended : scanEnd k s = modPipe pipeIdle (raise classScan
      { x with drum := drumScanEnd s.cfg.drum r.state r.cause s.now s.drum }) := by
    rw [← cfg, ← now, ← drum, ← state, ← cause]
    rfl
  rw [ended, drumScanEnd_eq]
  clear_value x
  rfl

/-! ### Commands and timers -/

/-- A command whose effect on the state at its time is known. -/
theorem exec_takes {c : Instr} {s y : State} (running : s.inReset = false) (wraps : unwrapped c = false)
    (effect : effectOf c (advance (timeOf c) s) = y) : exec c s = .next (noteChanges (advance (timeOf c) s) y) := by
  rw [exec_effectOf c s wraps, act_running _ _ s running, effect]

/-- A command that has no effect only lets time pass (log 2). -/
theorem exec_ignored {c : Instr} {s : State} (wraps : unwrapped c = false)
    (effect : effectOf c (advance (timeOf c) s) = advance (timeOf c) s) : exec c s = .next (advance (timeOf c) s) := by
  rw [exec_effectOf c s wraps, act_unchanged effect]

theorem due_reached {timer : Option Nat} {e now : Nat} (runs : timer = some e) (reached : e ≤ now) : due timer now = true := by
  simpa [due, runs] using reached

theorem not_due {timer : Option Nat} {now : Nat} (waits : ∀ e, timer = some e → now < e) : ¬due timer now = true := by
  cases runs : timer with
  | none => simp [due]
  | some e => simpa [due] using waits e runs

/-! ### Faults -/

theorem openCover_open {s : State} (isOpen : s.drum.coverOpen = true) : openCover s = s := if_pos isOpen

theorem openCover_closed {s : State} (closed : s.drum.coverOpen = false) : openCover s =
    if s.drum.state = .stopped ∨ s.drum.state = .fault then modDrum (fun d => { d with coverOpen := true }) s
    else drumFault .cover (modDrum (fun d => { d with coverOpen := true }) s) := if_neg (by simp [closed])

/-- R65: the homing limit stands 500 µs after the 40,000th step. -/
theorem homingLimitReached_homing (now since n : Nat) :
    homingLimitReached now (.homing since n) = true ↔ n = 40000 ∧ since + 20000500 ≤ now := by
  simp only [homingLimitReached, Bool.and_eq_true, decide_eq_true_eq]
  norm_num [homingLimit, homingPeriod]

theorem homingLimitExpiry_due {s : State} {since : Nat} (homing : s.drum.carriage = .homing since 40000)
    (reached : since + 20000500 ≤ s.now) :
    (if homingLimitReached s.now s.drum.carriage then drumFault .carriage s else s) = drumFault .carriage s := by
  rw [homing, if_pos ((homingLimitReached_homing _ _ _).2 ⟨rfl, reached⟩)]

theorem homingLimitExpiry_early {s : State} {since n : Nat} (homing : s.drum.carriage = .homing since n)
    (waits : n ≠ 40000 ∨ s.now < since + 20000500) :
    (if homingLimitReached s.now s.drum.carriage then drumFault .carriage s else s) = s := by
  rw [homing, if_neg ((homingLimitReached_homing _ _ _).not.2 (by omega))]

/-- Settles O53: each command is no event or enters FAULT with its cause. -/
theorem drumFaultsAreTaken : Obligations.DrumFaultsAreTaken := by
  intro t s running a now faulted takes d
  have isFaulted (cause : FaultCause) : drumFault cause a = faulted cause d := rfl
  have isCovered : drumFault .cover (modDrum (fun d => { d with coverOpen := true }) a) =
    faulted .cover { d with coverOpen := true } := rfl
  have rests_iff : d.state ∈ [DrumState.stopped, .fault] ↔ d.state = .stopped ∨ d.state = .fault := by simp
  refine ⟨fun e reached runs => ?stall, fun e reached runs => ?spinUp, fun e reached runs => ?slip, fun closed spins => ?cover,
    fun closed rests => ?coverAtRest, fun isOpen => ?coverOpen, fun since homing reached => ?limit,
    fun since n homing waits => ?noLimit⟩
  case stall => exact exec_takes running rfl ((if_pos (due_reached runs reached)).trans (isFaulted .stall))
  case spinUp => exact exec_takes running rfl ((if_pos (due_reached runs reached)).trans (isFaulted .spinUp))
  case slip => exact exec_takes running rfl ((if_pos (due_reached runs reached)).trans (isFaulted .slip))
  case cover =>
    have opened : openCover a = _ := (openCover_closed (s := a) closed).trans (if_neg (rests_iff.not.1 spins))
    exact exec_takes running rfl (opened.trans isCovered)
  case coverAtRest => exact exec_takes running rfl ((openCover_closed (s := a) closed).trans (if_pos (rests_iff.1 rests)))
  case coverOpen => exact exec_ignored rfl (openCover_open (s := a) isOpen)
  case limit => exact exec_takes running rfl ((homingLimitExpiry_due (s := a) homing reached).trans (isFaulted .carriage))
  case noLimit => exact exec_ignored rfl (homingLimitExpiry_early (s := a) homing waits)

/-! ### The other events -/

theorem isHoming_iff {c : Carriage} : isHoming c = true ↔ ∃ since n, c = .homing since n := by
  cases c <;> simp [isHoming]

/-- R62: a pipeline that is IDLE is not told that the lamp is ready. -/
theorem lampReport_eq (q : Pipeline) : lampReport q = if q.state = .idle then q else { q with lampReady := true } := by
  rw [lampReport, ite_not]

/-- R65: nor is it told that the carriage is homed. -/
theorem homedReport_eq (q : Pipeline) : homedReport q = if q.state = .idle then q else { q with homed := true } := by
  rw [homedReport, ite_not]

theorem settleLamp_due {s : State} {e : Nat} (runs : s.drum.settle = some e) (reached : e ≤ s.now) : settleLamp s =
    modPipe lampReport (modDrum (fun d => { d with lamp := .ready, settle := none }) s) :=
  if_pos (by simpa [due, runs] using reached)

/-- R65: a reverse step that is due counts, up to the limit. -/
theorem homingStep_due {d : Drum} {now since n : Nat} (homing : d.carriage = .homing since n) (below : n < 40000)
    (reached : since + 500 * (n + 1) ≤ now) : homingStep now d = { d with carriage := .homing since (n + 1) } := by
  simp only [homingStep, homing]
  exact if_pos ⟨below, reached⟩

theorem closeHome_homing {s : State} (homing : isHoming s.drum.carriage = true) : closeHome s =
    modPipe homedReport (modDrum (fun d => { d with homeClosed := true, carriage := .known 0 }) s) := by
  simp only [closeHome, homing, if_true]

theorem closeHome_other {s : State} (other : isHoming s.drum.carriage = false) : closeHome s =
    modDrum (fun d => { d with homeClosed := true }) s := by
  simp only [closeHome, other, Bool.false_eq_true, if_false]

/-- R66: a forward step that is due moves a KNOWN carriage. -/
theorem carriageStep_known {d : Drum} {now e n : Nat} {rest : List Nat} (steps : d.steps = e :: rest) (reached : e ≤ now)
    (known : d.carriage = .known n) :
    carriageStep now d = { d with steps := rest, carriage := .known (min 1048576 (n + 1)) } := by
  simp only [carriageStep, steps, if_pos reached, known]
  rfl

/-- Log 41: a forward step that is due moves no position of a carriage that is not KNOWN. -/
theorem carriageStep_unknown {d : Drum} {now e : Nat} {rest : List Nat} (steps : d.steps = e :: rest) (reached : e ≤ now)
    (unknown : ∀ n, d.carriage ≠ .known n) : carriageStep now d = { d with steps := rest } := by
  cases kind : d.carriage with
  | known n => exact absurd kind (unknown n)
  | unknown | homing => simp only [carriageStep, steps, if_pos reached, kind]

theorem startLimitExpiry_due {s : State} {e : Nat} (starting : s.pipe.state = .starting)
    (runs : s.pipe.startLimit = .running e) (reached : e ≤ s.now) : startLimitExpiry s =
      (unphased s.pipe).foldl (fun x p => orderOut p x) (modPipe (fun q =>
        { q with startLimit := .done, candidates := q.candidates.map fun c => if c = some false then none else c }) s) := by
  simp only [startLimitExpiry, starting, runs, if_pos reached]

/-- Settles O54: each command, by what it finds. -/
theorem drumEventsAreTaken : Obligations.DrumEventsAreTaken := by
  intro t s running a now d q takes homing
  refine ⟨fun e reached runs => ?idleSpin, fun e reached runs => ?coast, ?coverClose, fun e reached runs => ?settle,
    fun since n isHoming below reached => ?homingStep, fun isHoming => ?home, fun other => ?noHome, ?homeOpen,
    fun e rest n steps reached known => ?step, fun e rest steps reached unknown => ?unknownStep,
    fun e starting runs reached => ?startLimit, fun i timer isTimer waits => ?idle⟩
  case idleSpin => exact exec_takes running rfl (if_pos (due_reached runs reached))
  case coast => exact exec_takes running rfl (if_pos (due_reached runs reached))
  case coverClose => exact exec_takes running rfl rfl
  case homeOpen => exact exec_takes running rfl rfl
  case settle =>
    have settled : settleLamp a = _ := settleLamp_due (s := a) runs reached
    rw [modPipe, lampReport_eq] at settled
    exact exec_takes running rfl settled
  case homingStep =>
    exact exec_takes running rfl (congrArg (fun x => { a with drum := x }) (homingStep_due (d := a.drum) isHoming below reached))
  case home =>
    have closed : closeHome a = _ := closeHome_homing (s := a) (isHoming_iff.2 isHoming)
    rw [modPipe, homedReport_eq] at closed
    exact exec_takes running rfl closed
  case noHome => exact exec_takes running rfl (closeHome_other (s := a) (Bool.eq_false_iff.2 (isHoming_iff.not.2 other)))
  case step =>
    exact exec_takes running rfl (congrArg (fun x => { a with drum := x }) (carriageStep_known (d := a.drum) steps reached known))
  case unknownStep =>
    exact exec_takes running rfl (congrArg (fun x => { a with drum := x }) (carriageStep_unknown (d := a.drum) steps reached unknown))
  case startLimit => exact exec_takes running rfl (startLimitExpiry_due (s := a) starting runs reached)
  case idle =>
    have ignored := not_due waits
    simp only [List.mem_cons, Prod.mk.injEq, List.not_mem_nil, or_false] at isTimer
    obtain ⟨rfl, rfl⟩ | ⟨rfl, rfl⟩ | ⟨rfl, rfl⟩ | ⟨rfl, rfl⟩ | ⟨rfl, rfl⟩ | ⟨rfl, rfl⟩ := isTimer <;>
      exact exec_ignored rfl (if_neg ignored)

end Sys2Proof.Machine
end

section
/-! PROOFS. Tach pulses and the speed loop (O46), index pulses and the lock decision (O47). -/

namespace Sys2Proof.Machine

/-- The loop states as the statements list them. -/
theorem looping_of_mem {st : DrumState} (spins : st ∈ [DrumState.spinUp, .locked, .slipped]) : looping st = true := by
  rw [looping_iff]
  simpa using spins

theorem not_looping {st : DrumState} (rests : st = .stopped ∨ st = .stopping ∨ st = .fault) : ¬looping st = true := by
  rcases rests with rfl | rfl | rfl <;> decide

/-- The nominal period of a revolution at each speed. -/
theorem revTime_eq {rpm : Nat} (speed : rpm ∈ [60, 90, 120]) :
    revTime rpm = if rpm = 60 then 1000000 else if rpm = 90 then 666667 else 500000 := by
  simp only [List.mem_cons, List.not_mem_nil, or_false] at speed
  rcases speed with rfl | rfl | rfl <;> rfl

/-! ### Tach pulses -/

/-- R53: a tach pulse by the drum's state. -/
theorem tachPulse_loop {s : State} (spins : looping s.drum.state = true) :
    tachPulse s = { s with drum := tachLoop s.cfg.drum s.now s.drum } := if_pos spins

theorem tachPulse_stopping {s : State} (stopping : s.drum.state = .stopping) :
    tachPulse s = { s with drum := { s.drum with coast := some (s.now + 250000) } } := by
  rw [tachPulse, if_neg (not_looping (.inr (.inl stopping))), if_pos stopping]
  rfl

theorem tachPulse_still {s : State} (still : s.drum.state = .stopped ∨ s.drum.state = .fault) : tachPulse s = s := by
  rw [tachPulse, if_neg (not_looping (still.imp_right .inr)), if_neg]
  rcases still with state | state <;> simp [state]

/-- R52: the first tach pulse of a spin measures nothing. -/
theorem tachLoop_first {d : Drum} (c : DrumSettings) (now : Nat) (first : d.lastTach = none) :
    tachLoop c now d = { d with stall := some (now + 250000), lastTach := some now } := by
  simp only [tachLoop, first]
  rfl

/-- R52: the tooth period gives the error, the integral and the duty. -/
theorem tachLoop_next {d : Drum} {t rpm : Nat} (c : DrumSettings) (now : Nat) (last : d.lastTach = some t) (target : d.target = some rpm) :
    tachLoop c now d = { d with
      stall := some (now + 250000), lastTach := some now
      integral := loopIntegral d.integral (loopError rpm (now - t))
      duty := loopDuty c rpm (loopError rpm (now - t)) (loopIntegral d.integral (loopError rpm (now - t))) } := by
  simp only [tachLoop, last, target, Option.getD_some]
  rfl

/-- Settles O46: a tach pulse by the drum's state, and an index pulse out of the loop states. -/
theorem tachPulsesRunTheSpeedLoop : Obligations.TachPulsesRunTheSpeedLoop := by
  intro t s running a now d c drum
  refine ⟨fun spins => ⟨fun first => ?first, fun t0 rpm last target speed => ?next⟩, fun stopping => ?stopping,
    fun still => ?still, fun unlooped => ?index⟩
  case first =>
    have pulse : tachPulse a = _ := tachPulse_loop (s := a) (looping_of_mem spins)
    rw [show tachLoop a.cfg.drum a.now a.drum = _ from tachLoop_first c now first] at pulse
    exact exec_takes running rfl pulse
  case next =>
    intro p T base e I D
    have pulse : tachPulse a = _ := tachPulse_loop (s := a) (looping_of_mem spins)
    have error : loopError rpm (now - t0) = e := by
      simp only [loopError, revTime_eq speed, Nat.cast_ite]
      rfl
    rw [show tachLoop a.cfg.drum a.now a.drum = _ from tachLoop_next c now last target, error] at pulse
    exact exec_takes running rfl pulse
  case stopping => exact exec_takes running rfl (tachPulse_stopping (s := a) stopping)
  case still => exact exec_ignored rfl (tachPulse_still (s := a) still)
  case index => exact exec_ignored rfl (if_neg (not_looping unlooped))

/-! ### Index pulses -/

/-- R54: the deviation of a period is its distance from the nominal one. -/
theorem deviation_eq (a b : Nat) : deviation a b = ((a : Int) - b).natAbs := by
  unfold deviation
  split <;> omega

/-- R54: the first index pulse of a spin measures nothing. -/
theorem indexDecision_first {d : Drum} (c : DrumSettings) (now : Nat) (first : d.lastIndex = none) :
    indexDecision c now d = { d with lastIndex := some now, pulseState := some d.state } := by
  simp only [indexDecision, measured, first, Option.map_none]

/-- R54, R67: an index pulse with a period decides on lock by that period, and keeps the state it decided on. -/
theorem indexDecision_next {d decided : Drum} {t period : Nat} {c : DrumSettings} {now : Nat} (last : d.lastIndex = some t)
    (isPeriod : min 4294967295 (now - t) = period)
    (decides : lockDecision c now period { d with lastIndex := some now, tMeas := period } = decided) :
    indexDecision c now d = { decided with pulseState := some decided.state } := by
  subst isPeriod decides
  simp only [indexDecision, measured, last, Option.map_some, max32]

section
variable {c : DrumSettings} {now period rpm : Nat} {d : Drum}

/-- R54: LOCKED stands within twice the tolerance. -/
theorem lockDecision_locked (target : d.target = some rpm) (locked : d.state = .locked) : lockDecision c now period d =
    if deviation period (revTime rpm) ≤ 2 * lockTol c rpm then d else enterSlipped now d := by
  simp only [lockDecision, target, Option.getD_some, locked, if_true]

/-- R54: in SPINUP and SLIPPED the third good period in a row locks. -/
theorem lockDecision_seeks (target : d.target = some rpm) (seeks : d.state ≠ .locked) : lockDecision c now period d =
    if deviation period (revTime rpm) ≤ lockTol c rpm then
      (if 2 ≤ d.goodRun then enterLocked c now d else { d with goodRun := d.goodRun + 1 })
    else { d with goodRun := 0 } := by
  simp only [lockDecision, target, Option.getD_some, seeks, if_false]

theorem enterLocked_held (held : d.scanHeld = true) : enterLocked c now d =
    { d with state := .locked, goodRun := 3, spinUp := none, slip := none } := if_pos held

theorem enterLocked_free (free : d.scanHeld = false) : enterLocked c now d =
    startIdleSpin c now { d with state := .locked, goodRun := 3, spinUp := none, slip := none } := if_neg (by simp [free])

end

/-! ### Lock changes -/

/-- R85: in order, each member is told of a slip. -/
def orderMembersOut : State → State := forPorts fun p x => if x.ports[p].session.live = .member then orderOut p x else x

theorem sessionPart_orderMembersOut (s : State) : sessionPart (orderMembersOut s) = sessionPart s :=
  sessionPart_forPorts _ (fun p x => by rw [sessionPart_ite, sessionPart_orderOut, ite_self]) s

/-- R74: an entry to LOCKED starts the start limit timer, once in a scan. -/
theorem lockChange_locked (s : State) : lockChange .locked s =
    if s.pipe.state = .starting ∧ s.pipe.startLimit = .notStarted then
      modPipe (fun q => { q with startLimit := .running (s.now + startLimitTime) }) s
    else s := if_pos rfl

/-- R85: an entry to SLIPPED ends the live hold and the live set of a scan that runs. -/
theorem lockChange_slipped (s : State) : lockChange .slipped s =
    if s.pipe.state = .running then orderMembersOut (modPipe (fun q => { q with hold := none }) s) else s := by
  simp only [lockChange, reduceCtorEq, if_false, true_and, orderMembersOut]

theorem lockChange_other {st : DrumState} (s : State) (unlocked : st ≠ .locked) (unslipped : st ≠ .slipped) : lockChange st s = s := by
  simp only [lockChange, unlocked, unslipped, if_false, false_and]

/-- R74, R85: a lock change leaves the drum alone. -/
theorem drum_lockChange (st : DrumState) (s : State) : (lockChange st s).drum = s.drum := by
  by_cases locked : st = .locked
  · rw [locked, lockChange_locked]
    split <;> rfl
  by_cases slipped : st = .slipped
  · rw [slipped, lockChange_slipped]
    split
    · exact drum_of_sessionPart (sessionPart_orderMembersOut _)
    · rfl
  · rw [lockChange_other s locked slipped]

/-- R54, R67: an index pulse gives the lock change, and then the revolution event while a scan is held. -/
theorem indexPulse_eq {s z : State} {after : Drum} (isAfter : indexDecision s.cfg.drum s.now s.drum = after)
    (isChanged : (if after.state = s.drum.state then { s with drum := after } else lockChange after.state { s with drum := after }) = z) :
    indexPulse s = if s.drum.scanHeld = true then
      revolution s.drum.pulseState (some after.state) s.now ((measured s.now s.drum).getD (revTime (s.drum.target.getD 0))) z else z := by
  have changed : (if s.drum.state ≠ after.state then lockChange after.state { s with drum := after } else { s with drum := after }) = z := by
    rw [← isChanged, ite_not]
    exact if_congr eq_comm rfl rfl
  have now : z.now = s.now := by
    rw [← isChanged]
    split
    · rfl
    · exact congrArg Prod.snd (queueTime_lockChange _ _)
  have held : z.drum.scanHeld = s.drum.scanHeld := by
    have drum : z.drum = after := by
      rw [← isChanged]
      split
      · rfl
      · exact drum_lockChange _ _
    rw [drum, ← isAfter, scanHeld_indexDecision]
  have pulse : indexPulse s = if z.drum.scanHeld = true then
      revolution s.drum.pulseState (some after.state) z.now ((measured z.now s.drum).getD (revTime (s.drum.target.getD 0))) z else z := by
    rw [← changed, ← isAfter]
    rfl
  rw [pulse, held, now]

/-- Settles O47: the pulse as a whole, the lock decision by the drum's state, and what the pipeline makes of a lock change. -/
theorem indexPulsesDecideLock : Obligations.IndexPulsesDecideLock := by
  refine ⟨fun t s running spins => ?pulse, fun c now d => ⟨fun first => indexDecision_first c now first,
    fun t0 rpm last target speed => ?decision⟩, fun s => ⟨fun starting fresh => ?starts, fun not => ?stands, fun runs => ?slips,
      fun idle => ?unslipped⟩⟩
  case pulse =>
    intro a now after y z period
    have isPeriod : (measured now s.drum).getD (revTime (s.drum.target.getD 0)) = period := by
      simp only [measured, period]
      cases s.drum.lastIndex <;> rfl
    have pulse : effectOf (.indexPulse t) a = _ := (if_pos (looping_of_mem spins)).trans (indexPulse_eq (s := a) (z := z) rfl rfl)
    rw [show (measured a.now a.drum).getD (revTime (a.drum.target.getD 0)) = _ from isPeriod] at pulse
    exact ⟨fun free => exec_takes running rfl (pulse.trans (if_neg (by simp [a, free]))),
      fun held => exec_takes running rfl (pulse.trans (if_pos held))⟩
  case decision =>
    intro period T tol dev m locked
    have isTol : lockTol c rpm = tol := by simp only [lockTol, revTime_eq speed, tol, T]
    have isDev : deviation period (revTime rpm) = dev := by rw [deviation_eq, revTime_eq speed]
    have decided {y : Drum} (decides : lockDecision c now period m = y) : indexDecision c now d = { y with pulseState := some y.state } :=
      indexDecision_next last rfl decides
    refine ⟨fun state near => ?near, fun state far => ?far, fun seeking => ?seek⟩
    case near =>
      have stays : lockDecision c now period m = m := by
        rw [lockDecision_locked (d := m) target state, isTol, isDev, if_pos near]
      rw [decided stays, show m.state = _ from state]
    case far =>
      have slips : lockDecision c now period m = enterSlipped now m := by
        rw [lockDecision_locked (d := m) target state, isTol, isDev, if_neg (not_le.2 far)]
      rw [decided slips]
      rfl
    case seek =>
      have seeks : d.state ≠ .locked := by rcases seeking with state | state <;> simp [state]
      have judged := lockDecision_seeks (c := c) (now := now) (period := period) (d := m) target seeks
      rw [isTol, isDev] at judged
      refine ⟨fun off => decided (judged.trans (if_neg (not_le.2 off))),
        fun near few => decided (judged.trans ((if_pos near).trans (if_neg (not_le.2 few)))), fun near third => ?_⟩
      have locks : lockDecision c now period m = enterLocked c now m := judged.trans ((if_pos near).trans (if_pos third))
      have free (notHeld : d.scanHeld = false) : lockDecision c now period m = _ := locks.trans (enterLocked_free (d := m) notHeld)
      have idles (notHeld : d.scanHeld = false) (spins : c.idleSpin ≠ 0) := decided ((free notHeld).trans (if_neg spins))
      have stops (notHeld : d.scanHeld = false) (noIdle : c.idleSpin = 0) := decided ((free notHeld).trans (if_pos noIdle))
      exact ⟨fun held => decided (locks.trans (enterLocked_held (d := m) held)), idles, stops⟩
  case starts => exact (lockChange_locked s).trans (if_pos ⟨starting, fresh⟩)
  case stands => exact (lockChange_locked s).trans (if_neg fun ⟨starting, fresh⟩ => not.elim (absurd starting) (absurd fresh))
  case slips => exact (lockChange_slipped s).trans (if_pos runs)
  case unslipped => exact (lockChange_slipped s).trans (if_neg idle)

end Sys2Proof.Machine
end

section
/-! PROOFS. The acceptance of a line (O49). -/

namespace Sys2Proof.Machine

/-- R81: an entry goes into buffer 0 where that is FREE, else into buffer 1; the other one is the older if it is FULL. -/
theorem placeEntry_eq (e : LineEntry) {q : Pipeline} {b : Fin 2}
    (isBuffer : (if q.buffers[0] = none then 0 else 1) = b) : placeEntry e q =
      { q with buffers := q.buffers.set b (some e), older := if b = 0 ∧ q.buffers[1] ≠ none then 1 else 0 } := by
  by_cases first : q.buffers[0] = none
  · rw [if_pos first] at isBuffer
    subst isBuffer
    simp [placeEntry, first, Option.isSome_iff_ne_none]
  · rw [if_neg first] at isBuffer
    subst isBuffer
    simp [placeEntry, first]

/-- R83: the members whose band line `n` ends, as the bands' lengths say. -/
theorem endingMembers_eq (s : State) (n : Nat) : endingMembers s n = (List.finRange 4).filter fun p =>
    decide (s.ports[p].session.live = .member) && s.pipe.bandLens[p].any fun len => (n + 1) % len = 0 := by
  have ports : allPorts = List.finRange 4 := rfl
  unfold endingMembers
  rw [ports]
  refine List.filter_congr fun p _ => congrArg _ ?_
  cases s.pipe.bandLens[p] <;> rfl

theorem holdOf_eq (l : List Awaited) : holdOf l = if l = [] then none else some l := by
  cases l <;> rfl

/-- R83: unless the line is the last, the members whose band it ends are awaited. -/
theorem setHold_eq (n : Nat) (s : State) : setHold n s = { s with pipe := { s.pipe with
    hold := if n + 1 < s.pipe.lines then holdOf ((endingMembers s n).map fun p => { port := p }) else s.pipe.hold } } := by
  unfold setHold
  split <;> rfl

/-- R78, R81: a line that used references of its own has them held, and ends the run of reference faults. -/
theorem acceptLine_eq (wb : Nat × Nat) (heldRef : Bool) (t0 v : Nat) (r : Revolution) (s : State) (e : LineEntry) (x : Pipeline)
    (isEntry : e = { scanId := s.pipe.scanId.getD 0, pic := s.pipe.pic, line := s.pipe.next
                     bytes := mapLine s.cfg.drum.curve wb s.pipe.picSamples r.codes, heldRef := heldRef, lineTime := v })
    (placed : placeEntry e { s.pipe with next := s.pipe.next + 1 } = x) :
    acceptLine wb heldRef t0 v r s = setHold s.pipe.next { s with
      drum := carriageAccept t0 v s.pipe.samples s.drum
      pipe := { x with held := if heldRef then x.held else some wb, faultRun := if heldRef then x.faultRun else 0 } } := by
  subst isEntry placed
  cases heldRef <;> rfl

/-- Settles O49: the entry is placed, the carriage advances, and the hold is set. -/
theorem linesAreAccepted : Obligations.LinesAreAccepted := by
  intro s wb heldRef t0 v r _ q n d b e sum k ends members
  rw [acceptLine_eq wb heldRef t0 v r s e _ rfl (placeEntry_eq (q := { q with next := n + 1 }) (b := b) e rfl), setHold_eq, endingMembers_eq, holdOf_eq]
  rfl

end Sys2Proof.Machine
end

section
/-! PROOFS. What a port does when the scan tells it something (O21), and the end of a session (O25). -/

namespace Sys2Proof.Machine

/-! ### Whom the scan concerns -/

/-- R25, R86: a picture concerns a session that conducts a job of it and has a band. -/
theorem conducts_iff (k : Fin 16) (q : Port) : conducts k q = true ↔
    q.session.job.map (·.pic) = some k ∧ q.session.state ≠ .idle ∧ q.session.state ≠ .slipWait := by
  unfold conducts
  cases q.session.job with
  | none => simp
  | some j => simp [noBand]

/-! ### Leaving the live set unreported -/

/-- R150: a member leaves the live set, and has been live. -/
theorem departed_member {q : Port} (live : q.session.live = .member) : departed q = { q with
    lineTimes := [], session := { q.session with live := .none, counts := { q.session.counts with leftLive := true } } } := by
  simp only [departed, live, if_true, decide_true, Bool.or_true]

/-- R150: another session only ceases to be a candidate. -/
theorem departed_other {q : Port} (live : q.session.live ≠ .member) : departed q =
    { q with session := { q.session with live := .none } } := by
  simp only [departed, live, if_false, decide_false, Bool.or_false]

/-- R150: what the pipeline itself orders is not reported to it. -/
theorem departUnreported_eq (p : PortNo) (s : State) : withdrawLive p false (leaveLive p false s) = modPort p departed s := by
  by_cases member : s.ports[p].session.live = .member
  · have left : leaveLive p false s = modPort p departed s := by
      simp only [leaveLive, member, if_true, Bool.false_eq_true, if_false]
      exact modPort_congr (departed_member member).symm
    have out : (modPort p departed s).ports[p].session.live ≠ .candidate := by simp [departed]
    rw [left]
    exact if_neg out
  · rw [show leaveLive p false s = s from if_neg member]
    by_cases candidate : s.ports[p].session.live = .candidate
    · simp only [withdrawLive, candidate, if_true, Bool.false_eq_true, if_false]
      exact modPort_congr (departed_other member).symm
    · have outside : s.ports[p].session.live = .none := by
        cases live : s.ports[p].session.live with
        | none => rfl
        | candidate => exact absurd live candidate
        | member => exact absurd live member
      rw [modPort_unchanged (departed_trailing outside)]
      exact if_neg candidate

/-! ### What a port does -/

/-- R136: band start is judged again by the record that the session has by then. -/
theorem rejudge_modPort (p : PortNo) (f : Port → Port) (s : State) : rejudge p (modPort p f s) =
    if (f s.ports[p]).session.state = .standby ∧ (f s.ports[p]).session.live ≠ .candidate then bandStart p (modPort p f s)
    else modPort p f s := by
  simp only [rejudge, Fin.getElem_fin, modPort_same]

theorem orderOut_eq {p : PortNo} {s : State} (live : s.ports[p].session.live ≠ .none) :
    orderOut p s = service p (rejudge p (modPort p departed s)) := by
  rw [← departUnreported_eq]
  exact if_neg live

/-- R149: a candidate becomes a member. -/
theorem joinLive_candidate {p : PortNo} {s : State} (candidate : s.ports[p].session.live = .candidate) :
    joinLive p s = service p (rejudge p
      (modSession p (fun x => { x with live := .member, counts := { x.counts with startedLive := true } }) s)) := if_pos candidate

section
variable {k : Fin 16} {p : PortNo} {s : State} (concerned : conducts k s.ports[p] = true)
include concerned

theorem lineReady_member (n time : Nat) (member : s.ports[p].session.live = .member) : lineReady k n time p s =
    service p (rejudge p (modPort p (fun q => { q with lineTimes := q.lineTimes ++ [(n, time)] }) s)) := by
  unfold lineReady
  rw [if_pos concerned, if_pos member]

theorem lineReady_other (n time : Nat) (live : s.ports[p].session.live ≠ .member) :
    lineReady k n time p s = service p (rejudge p s) := by
  unfold lineReady
  rw [if_pos concerned, if_neg live]

theorem tellScanEnd_complete (whole : s.pics[k].state ≠ .cut) : tellScanEnd k p s =
    service p (rejudge p (modSession p (fun x => { x with live := .none }) s)) := by
  unfold tellScanEnd
  rw [if_pos concerned, if_neg whole]

/-- R137, R150: a cut also shortens the pass under way. -/
theorem tellScanEnd_cut (cut : s.pics[k].state = .cut) : tellScanEnd k p s = service p (rejudge p
    (modPort p (fun q => { departed q with session := shortenPass s.pics[k].mark (departed q).session }) s)) := by
  unfold tellScanEnd
  rw [if_pos concerned, if_pos cut, departUnreported_eq, modSession, modPort_modPort]
end

theorem shortenPass_state (m : Nat) (x : Session) : (shortenPass m x).state = x.state := by
  unfold shortenPass
  split <;> rfl

theorem shortenPass_live (m : Nat) (x : Session) : (shortenPass m x).live = x.live := by
  unfold shortenPass
  split <;> rfl

/-- Settles O21: each notice changes the port's record, and then the port judges its band and goes on by that record. -/
theorem portsHearOfTheScan : Obligations.PortsHearOfTheScan := by
  intro s p k n time q x port goOn left withdrawn concerned M shorter
  have concerns : concerned ↔ conducts k q = true := (conducts_iff k q).symm
  have goes {f : Port → Port} {v : Port} {live : LiveStatus} (isPort : f q = v) (state : v.session.state = x.state)
      (isLive : v.session.live = live) : service p (rejudge p (modPort p f s)) = goOn live (port v) := by
    subst isPort isLive
    rw [rejudge_modPort, show (f s.ports[p]).session.state = x.state from state]
    rfl
  refine ⟨fun other => if_neg (concerns.not.1 other), fun told member => ?readyMember, fun told live => ?readyOther,
    fun live => if_neg live, fun candidate => ?joins, fun live => if_pos live, fun member => ?outMember,
    fun candidate => ?outCandidate, fun other => if_neg (concerns.not.1 other), fun told whole => ?complete, fun told cut => ?cut⟩
  case readyMember => exact (lineReady_member (concerns.1 told) n time member).trans (goes rfl rfl member)
  case readyOther => exact lineReady_other (concerns.1 told) n time live
  case joins => exact (joinLive_candidate candidate).trans (goes rfl rfl rfl)
  case outMember =>
    have live : s.ports[p].session.live ≠ .none := by rw [member]; decide
    exact (orderOut_eq live).trans (goes (departed_member member) rfl rfl)
  case outCandidate =>
    have live : s.ports[p].session.live ≠ .none := by rw [candidate]; decide
    have notMember : s.ports[p].session.live ≠ .member := by rw [candidate]; decide
    exact (orderOut_eq live).trans (goes (departed_other notMember) rfl rfl)
  case complete => exact (tellScanEnd_complete (concerns.1 told) whole).trans (goes rfl rfl rfl)
  case cut =>
    have shortened {v : Port} (isPort : departed q = v) (state : v.session.state = x.state) (out : v.session.live = .none) :
        tellScanEnd k p s = goOn .none (port { v with session := shorter v.session }) := by
      subst isPort
      exact (tellScanEnd_cut (concerns.1 told) cut).trans
        (goes rfl ((shortenPass_state M _).trans state) ((shortenPass_live M _).trans out))
    by_cases member : x.live = .member
    · rw [member]
      exact shortened (departed_member member) rfl rfl
    · have other := shortened (departed_other member) rfl rfl
      cases live : x.live with
      | member => exact absurd live member
      | none | candidate => exact other

/-! ### The end of a session -/

/-- R144: everything a session's end does before its line is released. -/
theorem endSession_eq (p : PortNo) (o : SlipOutcome) (detail : Nat) (s : State) : endSession p o detail s =
    releaseLine p (!decide (s.ports[p].session.state = .closing ∧ o ≠ .aborted))
      (modStore (mapWays fun w => if composing s.ports[p] = some (w.pic, w.line) then w else { w with pins := w.pins.set p false })
        (modPipe (departReport p s.ports[p].session.live) (modPort p (fun q => { departed q with
          wait := none, preempt := false
          session := { (departed q).session with
            state := .releasing, outcome := some { outcome := o, detail := detail }, timer := none, wishes := [], ending := .ended } })
          s))) := by
  rw [endSession, withdrawn_eq, modPort_modStore, modPort_modPipe, modPort_modPort]

/-! ### The reports to the pipeline -/

/-- R84: the port leaves the awaited list, and the hold ends with the last port awaited. -/
theorem dropAwaited_held {q : Pipeline} {l : List Awaited} (p : PortNo) (hold : q.hold = some l) :
    dropAwaited p q = { q with hold := if ∀ a ∈ l, a.port = p then none else some (l.filter fun a => a.port ≠ p) } := by
  simp only [dropAwaited, hold, holdOf_eq, List.filter_eq_nil_iff, decide_eq_true_eq, not_not]

theorem dropAwaited_free {q : Pipeline} (p : PortNo) (free : q.hold = none) : dropAwaited p q = q := by
  simp only [dropAwaited, free]
  rw [← free]

/-- Settles O25: the end of a session as one change of the state, and each report by what the pipeline holds. -/
theorem sessionsEnd : Obligations.SessionsEnd := by
  refine ⟨fun s p o detail => ?ends, fun q p => ⟨fun idle => ?idle, fun busy => ?reports⟩⟩
  case ends =>
    intro q x unpin
    have flush : (!decide (x.state = .closing ∧ o ≠ .aborted)) = decide (x.state ≠ .closing ∨ o = .aborted) := by
      rw [← decide_not, decide_eq_decide, not_and_or, not_not]
    rw [endSession_eq, flush]
    rfl
  case idle =>
    have notBusy : ¬q.state ≠ .idle := not_not.2 idle
    exact ⟨if_neg fun h => notBusy h.1, if_neg notBusy, if_neg notBusy, if_neg notBusy⟩
  case reports =>
    have done : reportDone p q = dropAwaited p q := if_pos busy
    have played : reportTrailerPlayed p q = _ := if_pos busy
    refine ⟨fun candidate => if_pos ⟨busy, Option.isSome_iff_ne_none.2 candidate⟩,
      fun none => if_neg fun h => Option.isSome_iff_ne_none.1 h.2 none, if_pos busy, fun free => ?_, fun l hold => ?_⟩
    · refine ⟨done.trans (dropAwaited_free p free), played.trans ?_⟩
      rw [free, Option.map_none, ← free]
    · rw [done, played, dropAwaited_held p hold, hold]
      refine ⟨rfl, fun all => by rw [if_pos all], fun ⟨a, isIn, other⟩ => ?_⟩
      rw [if_neg fun all => other (all a isIn)]

end Sys2Proof.Machine
end

section
/-! PROOFS. Samples and conversions (O52), and the density bytes of a line (O50). -/

namespace Sys2Proof.Machine

/-! ### Samples and codes -/

/-- R75: a sample that is due waits for its code, and asks for it unless a request is unanswered. -/
theorem conversionRequest_due {q : Pipeline} {r : Revolution} {now : Nat} (rev : q.rev = some r) (running : q.state = .running)
    (below : r.codes.length < q.samples) (due : r.start + r.period * r.codes.length / q.samples ≤ now) :
    conversionRequest now q = { q with
      rev := some { r with codes := r.codes ++ [none] }
      request := match q.request with | some x => some x | none => some { position := r.codes.length, current := true } } := by
  simp only [conversionRequest, rev]
  exact if_pos ⟨running, below, due⟩

theorem conversionRequest_waits {q : Pipeline} {r : Revolution} {now : Nat} (rev : q.rev = some r)
    (waits : ¬(q.state = .running ∧ r.codes.length < q.samples ∧ r.start + r.period * r.codes.length / q.samples ≤ now)) :
    conversionRequest now q = q := by
  simp only [conversionRequest, rev]
  exact if_neg waits

/-- R75: no sample is due while no revolution runs. -/
theorem conversionRequest_idle {q : Pipeline} (now : Nat) (idle : q.rev = none ∨ q.state ≠ .running) :
    conversionRequest now q = q := by
  cases rev : q.rev with
  | none => simp only [conversionRequest, rev]
  | some r => exact conversionRequest_waits rev fun due => idle.elim (by simp [rev]) fun still => still due.1

theorem codeReady_unasked {q : Pipeline} (code : BitVec 12) (none : q.request = none) : codeReady code q = q := by
  simp only [codeReady, none]

theorem codeReady_asked {q : Pipeline} {x : ConvRequest} (code : BitVec 12) (request : q.request = some x) :
    codeReady code q = { q with
      request := none
      rev := if x.current then q.rev.map fun r => { r with codes := r.codes.set x.position (some code) } else q.rev } := by
  simp only [codeReady, request]

/-- Settles O52: a sample by whether it is due, and a code by the request it answers. -/
theorem samplesAreConverted : Obligations.SamplesAreConverted := by
  intro t s running a now q pipe
  have sampled {x : Pipeline} (effect : conversionRequest now q = x) : pipe (.conversionRequest t) x :=
    exec_takes running rfl (congrArg (fun y => { a with pipe := y }) effect)
  have unsampled (effect : conversionRequest now q = q) : exec (.conversionRequest t) s = .next a :=
    exec_ignored rfl (congrArg (fun y => { a with pipe := y }) effect)
  have coded {code : BitVec 12} {x : Pipeline} (effect : codeReady code q = x) : pipe (.codeReady t code) x :=
    exec_takes running rfl (congrArg (fun y => { a with pipe := y }) effect)
  have uncoded {code : BitVec 12} (effect : codeReady code q = q) : exec (.codeReady t code) s = .next a :=
    exec_ignored rfl (congrArg (fun y => { a with pipe := y }) effect)
  refine ⟨fun r rev runs => ?sample, fun idle => unsampled (conversionRequest_idle now idle), fun code => ⟨fun none => ?noCode,
    fun x request => ⟨fun late => ?late, fun current stopped => ?stopped, fun r current rev => ?code⟩⟩⟩
  case sample =>
    intro j asked
    refine ⟨fun below due free => sampled ?_, fun below due busy => sampled ?_, fun waits => unsampled ?_⟩
    · rw [conversionRequest_due rev runs below due, free]
    · obtain ⟨x, request⟩ := Option.ne_none_iff_exists'.1 busy
      rw [conversionRequest_due rev runs below due, request]
      simp only [asked, request]
    · exact conversionRequest_waits rev fun ⟨_, below, due⟩ => waits.elim (not_le.2 below) (not_lt.2 due)
  case noCode => exact uncoded (codeReady_unasked code none)
  case late => exact coded (by simp only [codeReady_asked code request, late, Bool.false_eq_true, if_false])
  case stopped => exact coded (by simp only [codeReady_asked code request, current, if_true, stopped, Option.map_none])
  case code => exact coded (by simp only [codeReady_asked code request, current, if_true, rev, Option.map_some])

/-! ### Density bytes -/

/-- R79: a scaled value has 12 bits where W is above B. -/
theorem scaled_le {w b : Nat} (above : b < w) (a : Nat) : scaled w b a ≤ 4095 := by
  unfold scaled
  split
  · omega
  · split
    · omega
    · refine Nat.le_of_lt_succ ((Nat.div_lt_iff_lt_mul (by omega)).2 ?_)
      omega

/-- R80: the interpolated value stands between the two curve points. -/
theorem interpolated_between {t0 t1 f : Int} (first : 0 ≤ f) (last : f ≤ 255) :
    min t0 t1 ≤ t0 + ((t1 - t0) * f + 128) / 256 ∧ t0 + ((t1 - t0) * f + 128) / 256 ≤ max t0 t1 := by
  rcases le_total t0 t1 with up | down
  · have most : (t1 - t0) * f ≤ (t1 - t0) * 255 := Int.mul_le_mul_of_nonneg_left last (by omega)
    have least : 0 ≤ (t1 - t0) * f := Int.mul_nonneg (by omega) first
    omega
  · have most : (t0 - t1) * f ≤ (t0 - t1) * 255 := Int.mul_le_mul_of_nonneg_left last (by omega)
    have least : 0 ≤ (t0 - t1) * f := Int.mul_nonneg (by omega) first
    have turned : (t1 - t0) * f = -((t0 - t1) * f) := by rw [← Int.neg_mul, Int.neg_sub]
    omega

/-- R80: the byte of a scaled value between two points of the curve. -/
theorem density_eq {curve : List Nat} {r t0 t1 : Nat} (low : curve[r / 256]? = some t0) (high : curve[r / 256 + 1]? = some t1) :
    (density curve r : Int) = t0 + (((t1 : Int) - t0) * (r % 256 : Nat) + 128) / 256 := by
  have between := (interpolated_between (t0 := t0) (t1 := t1) (f := (r % 256 : Nat)) (by omega) (by omega)).1
  simp only [density, List.getD_eq_getElem?_getD, low, high, Option.getD_some]
  refine Int.toNat_of_nonneg (le_trans ?_ between)
  omega

/-- R79, R80: the byte at a position of a line comes from the code 32 positions on. -/
theorem getElem?_mapLine {curve : List Nat} {wb : Nat × Nat} {p q : Nat} {codes : List (Option (BitVec 12))} {a : BitVec 12}
    (inLine : q < p) (code : codes[32 + q]? = some (some a)) :
    (mapLine curve wb p codes)[q]? = some (BitVec.ofNat 8 (density curve (scaled wb.1 wb.2 a.toNat))) := by
  simp only [mapLine, List.getElem?_map, List.getElem?_take, if_pos inLine, List.getElem?_drop, code, Option.map_some,
    Option.getD_some]

/-- Settles O50: the scaled value picks two neighbouring points of the curve, and the byte is interpolated between them. -/
theorem densitiesFollowTheToneCurve : Obligations.DensitiesFollowTheToneCurve := by
  intro T W B P q codes a length bytes _ above inLine code r i f
  have bounded : r ≤ 4095 := scaled_le above a.toNat
  have isLow : T[i]? = some T[i] := List.getElem?_eq_getElem (by omega)
  have isHigh : T[i + 1]? = some T[i + 1] := List.getElem?_eq_getElem (by omega)
  have lowByte : T[i] ≤ 255 := bytes _ (List.getElem_mem _)
  have highByte : T[i + 1] ≤ 255 := bytes _ (List.getElem_mem _)
  have value : (density T r : Int) = T[i] + (((T[i + 1] : Int) - T[i]) * f + 128) / 256 := density_eq isLow isHigh
  obtain ⟨least, most⟩ := interpolated_between (t0 := T[i]) (t1 := T[i + 1]) (f := f) (by omega) (by omega)
  rw [← value] at least most
  have isByte : (BitVec.ofNat 8 (density T r)).toNat = density T r := by
    rw [BitVec.toNat_ofNat, Nat.mod_eq_of_lt (by omega)]
  refine ⟨bounded, T[i], T[i + 1], BitVec.ofNat 8 (density T r), isLow, isHigh, getElem?_mapLine inLine code, ?_⟩
  rw [isByte]
  exact ⟨value, by omega, by omega⟩

end Sys2Proof.Machine
end

section
/-! PROOFS. A revolution event: the start of a scan, the judgement of a revolution, the waits of the live hold (O48). -/

namespace Sys2Proof.Machine

/-! ### The start of a scan -/

/-- R73: a scan may start when the lamp is ready, the carriage is homed, and no candidate is left unphased. -/
theorem startReady_iff (q : Pipeline) : startReady q = true ↔
    q.lampReady = true ∧ q.homed = true ∧ ∀ p : PortNo, q.candidates[p] ≠ some false := by
  have phased : q.candidates.toList.all (fun c => c != some false) = true ↔ ∀ p : PortNo, q.candidates[p] ≠ some false := by
    simp only [List.all_eq_true, mem_toList_iff, bne_iff_ne, ne_eq, forall_exists_index, forall_apply_eq_imp_iff]
  rw [startReady, Bool.and_eq_true, Bool.and_eq_true, phased, and_assoc]

/-- R73: the live set is formed, the ports are told, and the first revolution begins. -/
theorem startScan_eq {t0 v : Nat} {s x : State} {lens : Vector (Option Nat) 4}
    (isLens : (Vector.ofFn fun p : PortNo => if s.pipe.candidates[p] = none then none else some s.cfg.ports[p].bandLength) = lens)
    (started : forPorts joinLive { s with pipe := { s.pipe with
      state := .running, startLimit := .done, candidates := Vector.replicate 4 none, bandLens := lens } } = x) :
    startScan t0 v s = modPipe (beginRev t0 v) x := by
  subst isLens started
  have sameLens : (Vector.ofFn fun p : PortNo => if s.pipe.candidates[p].isSome then some (bandLen s p) else none) =
      Vector.ofFn fun p : PortNo => if s.pipe.candidates[p] = none then none else some s.cfg.ports[p].bandLength :=
    congrArg Vector.ofFn (funext fun p => by cases s.pipe.candidates[p] <;> rfl)
  rw [← sameLens]
  rfl

theorem revolution_starting {s : State} (starting : s.pipe.state = .starting) (first last : Option DrumState) (t0 v : Nat) :
    revolution first last t0 v s = if last = some .locked ∧ startReady s.pipe = true then startScan t0 v s else s := by
  simp only [revolution, starting]

theorem revolution_running {s : State} (running : s.pipe.state = .running) (first last : Option DrumState) (t0 v : Nat) :
    revolution first last t0 v s = runRev first last t0 v s := by
  simp only [revolution, running]

/-! ### The judgement -/

/-- R75: a revolution is complete when each of its S samples has its code. -/
theorem completeRev_iff (samples : Nat) (r : Revolution) : completeRev samples r = true ↔
    r.codes.length = samples ∧ ∀ x ∈ r.codes, x ≠ none := by
  simp only [completeRev, Bool.and_eq_true, decide_eq_true_eq, List.all_eq_true, Option.isSome_iff_ne_none]

section
variable {s : State} {r : Revolution} (rev : s.pipe.rev = some r) {first last : Option DrumState} (t0 v : Nat)
include rev

/-- R77: a revolution that is not open, not all LOCKED or not complete is passed over. -/
theorem judgeRev_passed (unfit : ¬(r.opened = true ∧ first = some .locked ∧ last = some .locked ∧
    r.codes.length = s.pipe.samples ∧ ∀ x ∈ r.codes, x ≠ none)) : judgeRev first last t0 v s = s := by
  simp only [judgeRev, rev]
  by_cases opened : r.opened = false
  · exact if_pos opened
  refine (if_neg opened).trans ?_
  by_cases locked : first = some .locked ∧ last = some .locked
  · refine (if_neg (not_not.2 locked)).trans (if_pos (Bool.eq_false_iff.2 fun complete => unfit ?_))
    exact ⟨Bool.eq_true_of_not_eq_false opened, locked.1, locked.2, (completeRev_iff _ _).1 complete⟩
  · exact if_pos locked

/-- R77, R78: any other is accepted by its references or is a reference fault. -/
theorem judgeRev_judged (opened : r.opened = true) (begun : first = some .locked) (ended : last = some .locked)
    (complete : r.codes.length = s.pipe.samples ∧ ∀ x ∈ r.codes, x ≠ none) : judgeRev first last t0 v s =
      if (referencesOf r.codes).2 + s.cfg.drum.spanFloor ≤ (referencesOf r.codes).1 then
        acceptLine (referencesOf r.codes) false t0 v r s
      else referenceFault t0 v r s := by
  simp only [judgeRev, rev, opened, begun, ended, (completeRev_iff _ _).2 complete, Bool.true_eq_false, and_self, not_true, if_false,
    usable, decide_eq_true_eq]

end

section
variable {s counted : State} (t0 v : Nat) (r : Revolution)
  (isCounted : { s with pipe := { s.pipe with faultRun := s.pipe.faultRun + 1 } } = counted)
include isCounted

/-- R78: the eighth reference fault in a row cuts the picture. -/
theorem referenceFault_last (last : 7 ≤ s.pipe.faultRun) :
    referenceFault t0 v r s = cutPicture s.pipe.pic .referenceLost counted := by
  subst isCounted
  exact if_pos (Nat.succ_le_succ last)

/-- R78: one before it is passed over, or its line is accepted on the held references. -/
theorem referenceFault_passed (early : s.pipe.faultRun < 7) (unheld : s.pipe.held = none) : referenceFault t0 v r s = counted := by
  subst isCounted
  refine (if_neg (not_le.2 (Nat.succ_lt_succ early))).trans ?_
  simp only [modPipe, unheld]

theorem referenceFault_held {wb : Nat × Nat} (early : s.pipe.faultRun < 7) (held : s.pipe.held = some wb) :
    referenceFault t0 v r s = acceptLine wb true t0 v r counted := by
  subst isCounted
  refine (if_neg (not_le.2 (Nat.succ_lt_succ early))).trans ?_
  simp only [modPipe, held]

end

/-! ### The waits of the live hold -/

theorem waitedOut_eq (limit : Nat) (a : Awaited) : waitedOut limit a = a.count.any fun n => limit ≤ n := by
  unfold waitedOut
  cases a.count <;> rfl

theorem advanceWaits_free {s : State} (free : s.pipe.hold = none) : advanceWaits s = s := by
  simp only [advanceWaits, free]

/-- R83, R84: the members that have waited out the limit leave the hold, and are ordered out in turn. -/
theorem advanceWaits_held {s : State} {l : List Awaited} {out : Awaited → Bool} (hold : s.pipe.hold = some l)
    (isOut : (fun a : Awaited => a.count.any fun n => decide (s.cfg.drum.holdLimit ≤ n)) = out) : advanceWaits s =
      ((countWaits l).filter out).foldl (fun y a => orderOut a.port y) { s with pipe := { s.pipe with
        hold := if ∀ a ∈ countWaits l, out a = true then none else some ((countWaits l).filter fun a => !out a) } } := by
  have limit : waitedOut s.cfg.drum.holdLimit = out := (funext (waitedOut_eq _)).trans isOut
  simp only [advanceWaits, hold, limit, holdOf_eq, List.filter_eq_nil_iff, Bool.not_eq_true', Bool.not_eq_false]
  rfl

/-- Settles O48: the event by the pipeline's state, and a running one by the judgement of the revolution that ended. -/
theorem revolutionsAreJudged : Obligations.RevolutionsAreJudged := by
  intro s first last t0 v q begun fit started waited goes
  have waits (x : State) : advanceWaits x = waited x := by
    simp only [waited]
    cases hold : x.pipe.hold with
    | none => exact advanceWaits_free hold
    | some l => exact advanceWaits_held hold rfl
  have isFit : fit ↔ last = some .locked ∧ startReady q = true := and_congr_right' (startReady_iff q).symm
  have runs {x : State} (running : q.state = .running) (judged : judgeRev first last t0 v s = x) :
      revolution first last t0 v s = goes x := by
    subst judged
    rw [revolution_running running, runRev]
    simp only [waits]
    rfl
  refine ⟨fun idle => ?idle, fun starting unfit => ?unready, fun starting ready => ?starts, fun running unbegun => ?begins,
    fun r running rev => ?judged⟩
  case idle => simp only [revolution, idle, q]
  case unready => exact (revolution_starting starting first last t0 v).trans (if_neg (isFit.not.1 unfit))
  case starts =>
    exact (revolution_starting starting first last t0 v).trans ((if_pos (isFit.1 ready)).trans (startScan_eq rfl rfl))
  case begins => exact runs running (by simp only [judgeRev, unbegun, q])
  case judged =>
    intro mean W B complete counted
    refine ⟨fun unfit => runs running (judgeRev_passed rev t0 v unfit), fun opened begun ended whole => ?_⟩
    have judged := judgeRev_judged rev t0 v opened begun ended whole
    refine ⟨fun usable => runs running (judged.trans (if_pos usable)), fun unusable => ?_⟩
    have faulted : judgeRev first last t0 v s = referenceFault t0 v r s := judged.trans (if_neg (not_le.2 unusable))
    exact ⟨fun eighth => runs running (faulted.trans (referenceFault_last t0 v r rfl eighth)),
      fun early unheld => runs running (faulted.trans (referenceFault_passed t0 v r rfl early unheld)),
      fun wb early held => runs running (faulted.trans (referenceFault_held t0 v r rfl early held))⟩

end Sys2Proof.Machine
end

section
/-! PROOFS. What each operation on a link or a queue leaves of its bounds, and so the operations of sessions and ports (O58). -/

namespace Sys2Proof.Machine

/-! ### Links -/

theorem linkOk_sendFrame {f : Frame} {l : Link} (plain : itemOf f = none) (ok : linkOk l) : linkOk (sendFrame f l) := by
  obtain ⟨units, frames⟩ := ok
  unfold sendFrame
  split
  case h_1 free =>
    simp only [unitsHeld, free, transferUnits] at units
    exact ⟨by simpa [unitsHeld, transferUnits, plain] using units, frames⟩
  case h_2 =>
    refine ⟨units, fun g isIn => ?_⟩
    rcases List.mem_append.1 isIn with before | last
    · exact frames g before
    · rwa [List.mem_singleton.1 last]

/-- R113: a frame that starts because there is room for its item keeps the bound. -/
theorem linkOk_startItem {f : Frame} {l : Link} (room : roomFor (frameUnits f) l = true) (ok : linkOk l) : linkOk (sendFrame f l) := by
  obtain ⟨-, -, free, units⟩ := (roomFor_iff _ _).1 room
  rw [sendFrame_free free]
  refine ⟨?_, ok.2⟩
  show (l.outstanding.map itemUnits).sum + frameUnits f ≤ 2
  exact units

/-- A frame in transfer with the units it had. -/
theorem linkOk_mapTransfer {g : Transfer → Transfer} {l : Link} (same : ∀ x, transferUnits (some (g x)) = transferUnits (some x))
    (ok : linkOk l) : linkOk { l with transfer := l.transfer.map g } := by
  refine ⟨?_, ok.2⟩
  have units : transferUnits (l.transfer.map g) = transferUnits l.transfer := by
    cases l.transfer with
    | none => rfl
    | some x => exact same x
  show (l.outstanding.map itemUnits).sum + transferUnits (l.transfer.map g) ≤ 2
  rw [units]
  exact ok.1

theorem linkOk_orphan {l : Link} (ok : linkOk l) : linkOk (orphan l) := linkOk_mapTransfer (fun _ => rfl) ok

theorem transferUnits_dropped (l : Link) : transferUnits (dropTransfer l).transfer = 0 := by
  unfold dropTransfer
  cases l.transfer with
  | none => rfl
  | some x =>
    cases item : itemOf x.frame with
    | none => simp [transferUnits, item]
    | some i => simp [transferUnits, item]

/-- R112, R114: an emptied list and a dropped item leave no unit on the link. -/
theorem linkOk_emptied {l m : Link} (outstanding : m.outstanding = []) (transfer : m.transfer = (dropTransfer l).transfer)
    (frames : m.frames = l.frames) (ok : linkOk l) : linkOk m := by
  refine ⟨?_, frames ▸ ok.2⟩
  rw [unitsHeld, outstanding, transfer, transferUnits_dropped]
  decide

theorem linkOk_askFlush {l : Link} (ok : linkOk l) : linkOk (askFlush l) := by
  unfold askFlush
  split
  · exact linkOk_sendFrame rfl (linkOk_emptied rfl rfl rfl ok)
  · exact ok

theorem linkOk_askRelease (now : Nat) {l : Link} (ok : linkOk l) : linkOk (askRelease now l) := by
  unfold askRelease
  split
  · exact linkOk_sendFrame rfl (linkOk_emptied rfl rfl rfl ok)
  · exact ok

theorem linkOk_loseCarrier {l : Link} (ok : linkOk l) : linkOk (loseCarrier l) := linkOk_emptied rfl rfl rfl ok

theorem linkOk_linkUp (c : PortSettings) {l : Link} (ok : linkOk l) : linkOk (linkUp c l) := linkOk_sendFrame rfl ok

theorem itemUnits_calmItem (i : Item) : itemUnits (calmItem i) = itemUnits i := by
  cases i <;> rfl

theorem frameUnits_calmFrame (f : Frame) : frameUnits (calmFrame f) = frameUnits f := by
  cases f <;> rfl

theorem linkOk_calmLink {l : Link} (ok : linkOk l) : linkOk (calmLink l) := by
  have calmed : linkOk { l with outstanding := l.outstanding.map calmItem } := by
    refine ⟨?_, ok.2⟩
    show ((l.outstanding.map calmItem).map itemUnits).sum + transferUnits l.transfer ≤ 2
    rw [List.map_map, show itemUnits ∘ calmItem = itemUnits from funext itemUnits_calmItem]
    exact ok.1
  refine linkOk_mapTransfer (fun x => ?_) calmed
  exact congrArg (fun n => if x.dropped then 0 else n) (frameUnits_calmFrame x.frame)

/-- R113: the item whose DONE is taken leaves the list. -/
theorem linkOk_takeDone {l m : Link} {i : Item} (taken : takeDone l = some (i, m)) (ok : linkOk l) : linkOk m := by
  unfold takeDone at taken
  split at taken
  · split at taken
    · next rest outstanding =>
      cases taken
      have units : itemUnits i + (rest.map itemUnits).sum + transferUnits l.transfer ≤ 2 := by
        have held := ok.1
        rwa [unitsHeld, outstanding, List.map_cons, List.sum_cons] at held
      exact ⟨by show (rest.map itemUnits).sum + transferUnits l.transfer ≤ 2; omega, ok.2⟩
    · cases taken
  · cases taken

/-- R111, R113: at its end the item of a frame joins the list with the units it had in transfer, and the next frame has none. -/
theorem linkOk_endTransfer {x : Transfer} {l : Link} (bytes : List Byte) (transfer : l.transfer = some x) (ok : linkOk l) :
    linkOk (endTransfer x bytes l) := by
  obtain ⟨units, frames⟩ := ok
  have joined : ((if x.dropped then [] else (itemOf x.frame).toList).map itemUnits).sum = transferUnits (some x) := by
    cases dropped : x.dropped <;> cases item : itemOf x.frame <;> simp [transferUnits, dropped, item]
  have next : transferUnits (l.frames.head?.map fun f => { frame := f }) = 0 := by
    cases waiting : l.frames with
    | nil => rfl
    | cons f rest =>
      have plain := frames f (by simp [waiting])
      simp [transferUnits, plain]
  rw [endTransfer_eq]
  refine ⟨?_, fun f isIn => frames f (List.mem_of_mem_tail isIn)⟩
  rw [unitsHeld, transfer] at units
  simpa only [unitsHeld, List.map_append, List.sum_append, joined, next, Nat.add_zero] using units

/-! ### Queues -/

theorem queueOk_sublist {l l' : List Job} (sub : l'.Sublist l) (ok : queueOk l) : queueOk l' :=
  ⟨sub.length_le.trans ok.1, ok.2.sublist sub⟩

/-- A job put in where the entries of higher priority end leaves the queue sorted. -/
theorem sorted_insert {within : Job → Bool} {j : Job} {l : List Job} (sorted : l.Pairwise fun a b => b.prio ≤ a.prio)
    (down : ∀ a b : Job, b.prio ≤ a.prio → within b = true → within a = true) (above : ∀ a, within a = true → j.prio ≤ a.prio)
    (below : ∀ a, within a = false → a.prio ≤ j.prio) :
    (l.takeWhile within ++ j :: l.dropWhile within).Pairwise fun a b => b.prio ≤ a.prio := by
  obtain ⟨before, after⟩ := takeWhile_eq_filter sorted down
  rw [before, after]
  refine List.pairwise_append.2 ⟨sorted.filter _, List.pairwise_cons.2 ⟨fun b isIn => ?_, sorted.filter _⟩, fun a isIn b isAfter => ?_⟩
  · exact below b (by simpa using (List.mem_filter.1 isIn).2)
  · have first := above a (List.mem_filter.1 isIn).2
    rcases List.mem_cons.1 isAfter with rfl | isRest
    · exact first
    · exact (below b (by simpa using (List.mem_filter.1 isRest).2)).trans first

theorem length_insert (within : Job → Bool) (j : Job) (l : List Job) :
    (l.takeWhile within ++ j :: l.dropWhile within).length = l.length + 1 := by
  have whole := congrArg List.length (List.takeWhile_append_dropWhile (p := within) (l := l))
  rw [List.length_append] at whole
  rw [List.length_append, List.length_cons]
  omega

theorem queueOk_insertSend {j : Job} {l : List Job} (room : l.length < queueLimit) (ok : queueOk l) : queueOk (insertSend j l) :=
  ⟨(length_insert _ j l).trans_le room,
    sorted_insert ok.2 (by simp; omega) (by simp) (by simp; omega)⟩

theorem queueOk_insertBumped {j : Job} {l : List Job} (room : l.length < queueLimit) (ok : queueOk l) : queueOk (insertBumped j l) :=
  ⟨(length_insert _ j l).trans_le room,
    sorted_insert ok.2 (by simp; omega) (by simp; omega) (by simp)⟩

theorem mem_insertSend (j : Job) (l : List Job) : j ∈ insertSend j l := by simp [insertSend]

/-- R102: the bumped job takes the place of the one it is bumped for. -/
theorem queueOk_bump {displaced c : Job} {l : List Job} (queued : c ∈ l) (ok : queueOk l) :
    queueOk (insertBumped displaced (l.erase c)) := by
  refine queueOk_insertBumped ?_ (queueOk_sublist List.erase_sublist ok)
  have shorter := List.length_erase_of_mem queued
  have := List.length_pos_of_mem queued
  have := ok.1
  omega

/-! ### Events that keep the bounds -/

/-- R98, R113: the link and the queue of a port are in their bounds. -/
def portOk (q : Port) : Prop := linkOk q.link ∧ queueOk q.queue

/-- R98, R113: the invariant of O58. -/
def InBounds (s : State) : Prop := ∀ p : PortNo, portOk s.ports[p]

theorem inBounds_iff (s : State) : InBounds s ↔ LinkInv s ∧ QueueInv s := forall_and

/-- An event that keeps every link and every queue in its bounds. -/
def Bounded (a b : State) : Prop := InBounds a → InBounds b

theorem Bounded.refl (s : State) : Bounded s s := id

theorem Bounded.trans {a b c : State} (ab : Bounded a b) (bc : Bounded b c) : Bounded a c := bc ∘ ab

/-- `Bounded.trans` from the last event back, as a composition of operations is written. -/
theorem Bounded.after {a b c : State} (bc : Bounded b c) (ab : Bounded a b) : Bounded a c := ab.trans bc

theorem Bounded.of_ports {a b : State} (same : b.ports = a.ports) : Bounded a b := by
  unfold Bounded InBounds
  rw [same]
  exact id

theorem Bounded.ite {p : Prop} [Decidable p] {a b c : State} (yes : p → Bounded a b) (no : ¬p → Bounded a c) :
    Bounded a (if p then b else c) := by
  split
  case isTrue h => exact yes h
  case isFalse h => exact no h

theorem Bounded.foldl {α : Type} {f : State → α → State} (each : ∀ x a, Bounded x (f x a)) (l : List α) (s : State) :
    Bounded s (l.foldl f s) := by
  induction l generalizing s with
  | nil => exact .refl s
  | cons a l ih => exact (each s a).trans (ih (f s a))

theorem Bounded.forPorts {f : PortNo → State → State} (each : ∀ p x, Bounded x (f p x)) (s : State) : Bounded s (forPorts f s) :=
  .foldl (fun x p => each p x) _ s

theorem bounded_modPort {p : PortNo} {f : Port → Port} {s : State} (ok : portOk s.ports[p] → portOk (f s.ports[p])) :
    Bounded s (modPort p f s) := by
  intro within q
  by_cases same : q = p
  · subst same
    simpa only [Fin.getElem_fin, modPort_same] using ok (within q)
  · simpa only [Fin.getElem_fin, modPort_get, if_neg same] using within q

theorem bounded_modSession (p : PortNo) (f : Session → Session) (s : State) : Bounded s (modSession p f s) := bounded_modPort id
theorem bounded_modCounts (p : PortNo) (f : Counts → Counts) (s : State) : Bounded s (modCounts p f s) := bounded_modPort id

theorem bounded_modLink {p : PortNo} {f : Link → Link} {s : State} (ok : linkOk s.ports[p].link → linkOk (f s.ports[p].link)) :
    Bounded s (modLink p f s) := bounded_modPort fun h => ⟨ok h.1, h.2⟩

theorem bounded_modPic (k : Fin 16) (f : PictureRecord → PictureRecord) (s : State) : Bounded s (modPic k f s) := .of_ports rfl
theorem bounded_modPipe (f : Pipeline → Pipeline) (s : State) : Bounded s (modPipe f s) := .of_ports rfl
theorem bounded_modDrum (f : Drum → Drum) (s : State) : Bounded s (modDrum f s) := .of_ports rfl
theorem bounded_modStore (f : LineStore → LineStore) (s : State) : Bounded s (modStore f s) := .of_ports rfl
theorem bounded_raise (c : Nat) (s : State) : Bounded s (raise c s) := .of_ports rfl
theorem bounded_endUnit (u : BusUnit) (s : State) : Bounded s (endUnit u s) := .of_ports rfl

/-! ### The Line Store and the coupler -/

theorem bounded_withdrawWait (p : PortNo) (s : State) : Bounded s (withdrawWait p s) := bounded_modPort id
theorem bounded_dropPins (p : PortNo) (s : State) : Bounded s (dropPins p s) := .of_ports rfl

theorem bounded_answerWaiters (pic : Fin 16) (line : Nat) (w : Bool) (s : State) : Bounded s (answerWaiters pic line w s) := by
  refine .forPorts (fun p x => ?_) s
  split
  · exact .ite (fun _ => .after (bounded_modPort id) (bounded_modStore _ x)) fun _ => .refl x
  · exact .refl x

theorem bounded_askLine (p : PortNo) (pic : Fin 16) (line : Nat) (s : State) : Bounded s (askLine p pic line s) := by
  unfold askLine
  dsimp only
  split
  · exact bounded_modStore _ s
  · exact bounded_modPort id

theorem bounded_stageLine (p : PortNo) (d : Nat) (s : State) : Bounded s (stageLine p d s) := by
  unfold stageLine
  dsimp only
  split
  · exact .ite (fun _ => .after (bounded_modSession _ _ _) (bounded_askLine _ _ _ s)) fun _ => .refl s
  · exact .refl s

/-- R113: the port starts an item only where its link has room. -/
theorem bounded_pump (p : PortNo) (s : State) : Bounded s (pump p s) := by
  unfold pump
  split
  · exact .ite (fun room => bounded_modPort fun ok => ⟨linkOk_startItem room ok.1, ok.2⟩) fun _ => .refl s
  · exact .refl s

theorem bounded_service (p : PortNo) (s : State) : Bounded s (service p s) :=
  .after (bounded_pump _ _) (.after (bounded_stageLine _ _ _) (bounded_stageLine _ _ s))

/-! ### Slips -/

theorem bounded_judgeWriterFrom (w : WriterState) (s : State) : Bounded s (judgeWriterFrom w s) :=
  .ite (fun _ => .of_ports rfl) fun _ => .of_ports rfl

theorem bounded_judgeWriter (s : State) : Bounded s (judgeWriter s) := bounded_judgeWriterFrom _ s

theorem bounded_blockPort (p : PortNo) (s : State) : Bounded s (blockPort p s) :=
  .ite (fun _ => bounded_modSession _ _ s) fun _ => .refl s

theorem bounded_compose (x : Slip) (s : State) : Bounded s (compose x s) :=
  .after (.ite (fun _ => bounded_blockPort _ _) fun _ => .refl _)
    (.after (bounded_judgeWriter _) (.ite (fun _ => .of_ports rfl) fun _ => .of_ports rfl))

/-! ### Sessions -/

theorem bounded_leaveLive (p : PortNo) (report : Bool) (s : State) : Bounded s (leaveLive p report s) :=
  .ite (fun _ => .after (.ite (fun _ => bounded_modPipe _ _) fun _ => .refl _) (bounded_modPort id)) fun _ => .refl s

theorem bounded_withdrawLive (p : PortNo) (report : Bool) (s : State) : Bounded s (withdrawLive p report s) :=
  .ite (fun _ => .after (.ite (fun _ => bounded_modPipe _ _) fun _ => .refl _) (bounded_modSession _ _ s)) fun _ => .refl s

theorem bounded_departLive (p : PortNo) (s : State) : Bounded s (departLive p s) :=
  .after (bounded_withdrawLive _ _ _) (bounded_leaveLive _ _ s)

theorem bounded_startTimer (p : PortNo) (kind : TimerKind) (time : Nat) (s : State) : Bounded s (startTimer p kind time s) :=
  bounded_modSession _ _ s

theorem bounded_wish (p : PortNo) (w : Wish) (s : State) : Bounded s (wish p w s) := bounded_modSession _ _ s

theorem bounded_enterState (p : PortNo) (st : SessionState) (s : State) : Bounded s (enterState p st s) := bounded_modSession _ _ s

theorem bounded_countNoise (p : PortNo) (s : State) : Bounded s (countNoise p s) := bounded_modCounts _ _ s

theorem bounded_finishEnded (p : PortNo) (s : State) : Bounded s (finishEnded p s) := by
  unfold finishEnded
  split
  · exact .after (bounded_compose _ _) (.after (bounded_modPort fun ok => ⟨linkOk_orphan ok.1, ok.2⟩) (bounded_modCounts _ _ s))
  · exact .refl s

/-- R130: a session that begins sends SEIZE, or is SHORT at once. -/
theorem bounded_startWith (p : PortNo) (j : Job) (x : Session) (s : State) : Bounded s (startWith p j x s) :=
  .after (.ite (fun _ => .after (bounded_finishEnded _ _) (bounded_modSession _ _ _)) fun _ =>
    .after (bounded_modLink fun ok => linkOk_sendFrame rfl ok) (bounded_modSession _ _ _)) (bounded_modPort id)

theorem bounded_startJob (p : PortNo) (j : Job) (candidate : Bool) (s : State) : Bounded s (startJob p j candidate s) :=
  bounded_startWith _ _ _ s

theorem bounded_startContext (p : PortNo) (c : Context) (s : State) : Bounded s (startContext p c s) := bounded_startWith _ _ _ s

theorem bounded_activate (p : PortNo) (j : Job) (candidate : Bool) (s : State) : Bounded s (activate p j candidate s) :=
  .ite (fun _ => bounded_modPort id) fun _ => bounded_startJob _ _ _ s

/-- R100: the head of the queue leaves it for its session. -/
theorem bounded_startHead {p : PortNo} {s : State} {j : Job} {rest : List Job} (queue : s.ports[p].queue = j :: rest) :
    Bounded s (startJob p j false (modPort p (fun q => { q with queue := rest }) s)) :=
  .after (bounded_startJob _ _ _ _)
    (bounded_modPort fun ok => ⟨ok.1, queueOk_sublist (List.sublist_cons_self j rest) (queue ▸ ok.2)⟩)

theorem bounded_startLast (p : PortNo) (c : Context) (s : State) :
    Bounded s (startContext p c (modPort p (fun q => { q with contexts := q.contexts.dropLast }) s)) :=
  .after (bounded_startContext _ _ _) (bounded_modPort id)

theorem bounded_select (p : PortNo) (s : State) : Bounded s (select p s) := by
  refine .ite (fun _ => ?_) fun _ => .refl s
  split
  case h_1 => exact .refl s
  case h_2 queue _ => exact bounded_startHead queue
  case h_3 => exact bounded_startLast _ _ s
  case h_4 queue _ => exact .ite (fun _ => bounded_startHead queue) fun _ => bounded_startLast _ _ s

theorem bounded_beginOrSelect (p : PortNo) (s : State) : Bounded s (beginOrSelect p s) := by
  unfold beginOrSelect
  split
  · exact .ite (fun _ => bounded_startJob _ _ _ s) fun _ => .refl s
  · exact bounded_select p s

theorem bounded_emptySession (p : PortNo) (s : State) : Bounded s (emptySession p s) :=
  bounded_modPort fun ok => ⟨linkOk_orphan ok.1, ok.2⟩

theorem bounded_saveContext (p : PortNo) (s : State) : Bounded s (saveContext p s) := by
  unfold saveContext
  split
  · exact .after (bounded_emptySession _ _) (bounded_modPort id)
  · exact .refl s

theorem bounded_releaseComplete (p : PortNo) (s : State) : Bounded s (releaseComplete p s) := by
  refine .ite (fun _ => ?_) fun _ => .refl s
  split
  · exact bounded_finishEnded p s
  · exact .after (bounded_select _ _) (bounded_saveContext p s)
  · exact .after (bounded_beginOrSelect _ _) (bounded_emptySession p s)
  · exact .refl s

/-- R112, R114: FLUSH and RELEASE leave no unit on the link. -/
theorem bounded_releaseLine (p : PortNo) (flush : Bool) (s : State) : Bounded s (releaseLine p flush s) := by
  refine .after (.ite (fun _ => bounded_releaseComplete _ _) fun _ => .refl _) (bounded_modLink fun ok => linkOk_askRelease _ ?_)
  split
  · exact linkOk_askFlush ok
  · exact ok

theorem bounded_endSession (p : PortNo) (o : SlipOutcome) (detail : Nat) (s : State) : Bounded s (endSession p o detail s) :=
  .after (bounded_releaseLine _ _ _) (.after (bounded_modPort id)
    (.after (bounded_withdrawWait _ _) (.after (bounded_dropPins _ _) (bounded_departLive p s))))

/-! ### Bands and boundaries -/

theorem bounded_closeSession (p : PortNo) (s : State) : Bounded s (closeSession p s) :=
  .after (bounded_wish _ _ _) (bounded_enterState _ _ s)

theorem bounded_bandStart (p : PortNo) (s : State) : Bounded s (bandStart p s) := by
  unfold bandStart
  split
  · split
    · exact bounded_closeSession p s
    · exact bounded_modPort id
    · exact bounded_enterState p _ s
  · exact .refl s

theorem bounded_rejudge (p : PortNo) (s : State) : Bounded s (rejudge p s) := .ite (fun _ => bounded_bandStart p s) fun _ => .refl s

theorem bounded_enterHeld (p : PortNo) (s : State) : Bounded s (enterHeld p s) :=
  .after (bounded_leaveLive _ _ _) (bounded_enterState _ _ s)

theorem bounded_reachPhasing (p : PortNo) (s : State) : Bounded s (reachPhasing p s) :=
  .ite (fun _ => .after (bounded_modPipe _ _) (bounded_enterState _ _ s)) fun _ =>
    .ite (fun _ => bounded_enterHeld p s) fun _ => bounded_bandStart p s

theorem bounded_part (p : PortNo) (s : State) : Bounded s (part p s) :=
  .after (bounded_wish _ _ _) (.after (bounded_enterState _ _ _) (.after (bounded_modCounts _ _ _)
    (.after (bounded_withdrawWait _ _) (.after (bounded_dropPins _ _) (bounded_departLive p s)))))

theorem bounded_boundary {p : PortNo} {goOn : State → State} (goes : ∀ x, Bounded x (goOn x)) (s : State) :
    Bounded s (boundary p goOn s) :=
  .after (.ite (fun _ => bounded_part p _) fun _ => .ite (fun _ => bounded_enterHeld p _) fun _ => goes _) (bounded_modPort id)

theorem bounded_releaseParted (p : PortNo) (s : State) : Bounded s (releaseParted p s) :=
  .after (bounded_releaseLine _ _ _) (bounded_modSession _ _ s)

/-! ### Preemption and aborts -/

/-- R102: the bumped job stands in the queue in the place of the one it is bumped for. -/
theorem bounded_bumpJob {p : PortNo} {c : Job} {s : State} (displaced : Job) (queued : c ∈ s.ports[p].queue) :
    Bounded s (bumpJob p displaced c s) := by
  rw [bumpJob_eq]
  exact .after (bounded_releaseLine _ _ _) (.after (bounded_modStore _ _) (.after (bounded_modPipe _ _)
    (bounded_modPort fun ok => ⟨ok.1, queueOk_bump queued ok.2⟩)))

theorem bounded_checkPreempt {p : PortNo} {c : Job} {s : State} (queued : c ∈ s.ports[p].queue) : Bounded s (checkPreempt p c s) := by
  unfold checkPreempt
  dsimp only
  split
  · exact .ite (fun _ => .ite (fun _ => bounded_bumpJob _ queued) fun _ => .ite (fun _ => bounded_modPort id) fun _ => .refl s)
      fun _ => .refl s
  · exact .refl s

theorem bounded_abortQueued (t : AbortTarget) (p : PortNo) (s : State) : Bounded s (abortQueued t p s) :=
  .after (.foldl (fun x (_ : Job) => bounded_compose _ x) _ _) (bounded_modPort fun ok => ⟨ok.1, queueOk_sublist List.filter_sublist ok.2⟩)

theorem bounded_abortActive (t : AbortTarget) (p : PortNo) (s : State) : Bounded s (abortActive t p s) := by
  unfold abortActive
  split
  · exact .refl s
  · exact .after (.ite (fun _ => .after (bounded_compose _ _) (.after (bounded_modPipe _ _) (bounded_modPort id))) fun _ =>
      .ite (fun _ => bounded_modSession _ _ _) fun _ => bounded_endSession _ _ _ _) (bounded_modPort id)

theorem bounded_abortPort (t : AbortTarget) (p : PortNo) (s : State) : Bounded s (abortPort t p s) :=
  .after (bounded_select _ _) (.after (.foldl (fun x (_ : Context) => bounded_compose _ x) _ _) (.after (bounded_modPort id)
    (.after (bounded_abortActive _ _ _) (bounded_abortQueued t p s))))

/-! ### What the ports are told -/

theorem bounded_goOn (p : PortNo) (s : State) : Bounded s (service p (rejudge p s)) :=
  .after (bounded_service _ _) (bounded_rejudge p s)

theorem bounded_lineReady (k : Fin 16) (n time : Nat) (p : PortNo) (s : State) : Bounded s (lineReady k n time p s) :=
  .ite (fun _ => .after (bounded_goOn _ _) (.ite (fun _ => bounded_modPort id) fun _ => .refl s)) fun _ => .refl s

theorem bounded_tellScanEnd (k : Fin 16) (p : PortNo) (s : State) : Bounded s (tellScanEnd k p s) :=
  .ite (fun _ => .after (bounded_goOn _ _) (.ite
    (fun _ => .after (bounded_modSession _ _ _) (.after (bounded_withdrawLive _ _ _) (bounded_leaveLive _ _ s)))
    fun _ => bounded_modSession _ _ s)) fun _ => .refl s

theorem bounded_orderOut (p : PortNo) (s : State) : Bounded s (orderOut p s) :=
  .ite (fun _ => .refl s) fun _ => .after (bounded_goOn _ _) (.after (bounded_withdrawLive _ _ _) (bounded_leaveLive _ _ s))

theorem bounded_joinLive (p : PortNo) (s : State) : Bounded s (joinLive p s) :=
  .ite (fun _ => .after (bounded_goOn _ _) (bounded_modSession _ _ s)) fun _ => .refl s

theorem bounded_tellAltered (k : Fin 16) (n : Nat) (p : PortNo) (s : State) : Bounded s (tellAltered k n p s) := bounded_modPort id

end Sys2Proof.Machine
end

section
/-! PROOFS. The drum, the pipeline, the memory path and Job Intake keep every link and queue in its bounds (O58). -/

namespace Sys2Proof.Machine

/-! ### The drum and the pipeline -/

theorem bounded_scanEnd (k : Fin 16) (s : State) : Bounded s (scanEnd k s) :=
  .after (bounded_modPipe _ _) (.after (bounded_raise _ _) (.after (bounded_modDrum _ _) (.forPorts (bounded_tellScanEnd k) s)))

theorem bounded_cutPicture (k : Fin 16) (cause : CutCause) (s : State) : Bounded s (cutPicture k cause s) :=
  .ite (fun _ => .after (bounded_scanEnd _ _) (bounded_modPic _ _ s)) fun _ => .refl s

theorem bounded_drumFault (cause : FaultCause) (s : State) : Bounded s (drumFault cause s) :=
  .after (.ite (fun _ => bounded_cutPicture _ _ _) fun _ => .refl _) (.after (bounded_raise _ _) (bounded_modDrum _ s))

theorem bounded_acceptLine (wb : Nat × Nat) (heldRef : Bool) (t0 v : Nat) (r : Revolution) (s : State) :
    Bounded s (acceptLine wb heldRef t0 v r s) :=
  .after (.ite (fun _ => bounded_modPipe _ _) fun _ => .refl _) (.after (bounded_modDrum _ _) (bounded_modPipe _ s))

theorem bounded_referenceFault (t0 v : Nat) (r : Revolution) (s : State) : Bounded s (referenceFault t0 v r s) := by
  unfold referenceFault
  refine .trans (bounded_modPipe _ _) (.ite (fun _ => bounded_cutPicture _ _ _) fun _ => ?_)
  split
  · exact bounded_acceptLine _ _ _ _ _ _
  · exact .refl _

theorem bounded_judgeRev (a b : Option DrumState) (t0 v : Nat) (s : State) : Bounded s (judgeRev a b t0 v s) := by
  unfold judgeRev
  split
  · exact .refl s
  · exact .ite (fun _ => .refl s) fun _ => .ite (fun _ => .refl s) fun _ => .ite (fun _ => .refl s) fun _ =>
      .ite (fun _ => bounded_acceptLine _ _ _ _ _ s) fun _ => bounded_referenceFault _ _ _ s

theorem bounded_advanceWaits (s : State) : Bounded s (advanceWaits s) := by
  unfold advanceWaits
  split
  · exact .refl s
  · exact .after (.foldl (fun x (a : Awaited) => bounded_orderOut a.port x) _ _) (bounded_modPipe _ s)

theorem bounded_startScan (t0 v : Nat) (s : State) : Bounded s (startScan t0 v s) :=
  .after (bounded_modPipe _ _) (.after (.forPorts bounded_joinLive _) (bounded_modPipe _ s))

theorem bounded_revolution (a b : Option DrumState) (t0 v : Nat) (s : State) : Bounded s (revolution a b t0 v s) := by
  unfold revolution
  split
  · exact .refl s
  · exact .ite (fun _ => bounded_startScan t0 v s) fun _ => .refl s
  · exact .after (.ite (fun _ => .after (bounded_modPipe _ _) (bounded_advanceWaits _)) fun _ => .refl _) (bounded_judgeRev a b t0 v s)

theorem bounded_lockChange (st : DrumState) (s : State) : Bounded s (lockChange st s) := by
  refine .ite (fun _ => .ite (fun _ => bounded_modPipe _ s) fun _ => .refl s) fun _ =>
    .ite (fun _ => .after (.forPorts (fun p x => ?_) _) (bounded_modPipe _ s)) fun _ => .refl s
  exact .ite (fun _ => bounded_orderOut p x) fun _ => .refl x

theorem bounded_indexPulse (s : State) : Bounded s (indexPulse s) :=
  .after (.ite (fun _ => bounded_revolution _ _ _ _ _) fun _ => .refl _)
    (.after (.ite (fun _ => bounded_lockChange _ _) fun _ => .refl _) (.of_ports rfl))

theorem bounded_tachPulse (s : State) : Bounded s (tachPulse s) :=
  .ite (fun _ => bounded_modDrum _ s) fun _ => .ite (fun _ => bounded_modDrum _ s) fun _ => .refl s

theorem bounded_openCover (s : State) : Bounded s (openCover s) :=
  .ite (fun _ => .refl s) fun _ => .after (.ite (fun _ => .refl _) fun _ => bounded_drumFault _ _) (bounded_modDrum _ s)

theorem bounded_settleLamp (s : State) : Bounded s (settleLamp s) :=
  .ite (fun _ => .after (bounded_modPipe _ _) (bounded_modDrum _ s)) fun _ => .refl s

theorem bounded_closeHome (s : State) : Bounded s (closeHome s) :=
  .after (.ite (fun _ => bounded_modPipe _ _) fun _ => .refl _) (bounded_modDrum _ s)

theorem bounded_startLimitExpiry (s : State) : Bounded s (startLimitExpiry s) := by
  unfold startLimitExpiry
  split
  · exact .ite (fun _ => .after (.foldl (fun x p => bounded_orderOut p x) _ _) (bounded_modPipe _ s)) fun _ => .refl s
  · exact .refl s

theorem bounded_takeScan (id : Nat) (k : Fin 16) (rpm advance : Nat) (live : List PortNo) (s : State) :
    Bounded s (takeScan id k rpm advance live s) := by
  rw [takeScan_eq id k rpm advance live s _ _ rfl rfl]
  exact .of_ports rfl

/-! ### The memory path -/

theorem bounded_grantDesk (s : State) : Bounded s (grantDesk s) := by
  unfold grantDesk
  split
  · exact .refl s
  · dsimp only
    split <;> exact .of_ports rfl

theorem bounded_grantFetch (p : PortNo) (s : State) : Bounded s (grantFetch p s) := by
  cases waits : s.ports[p].wait with
  | none =>
    rw [grantFetch, waits]
    exact .refl s
  | some q =>
    cases chosen : chooseWay s.store.sets[setIndex q.pic q.line] with
    | none =>
      simp only [grantFetch, waits, chosen]
      exact .refl s
    | some w =>
      rw [grantFetch_eq waits chosen]
      exact .trans (bounded_modPort (p := p) (f := fun v => { v with wait := some { q with form := .granted } }) id) (.of_ports rfl)

theorem bounded_grant (r : Requester) (s : State) : Bounded s (grant r s) := by
  cases r with
  | desk => exact bounded_grantDesk s
  | scanWriter =>
    simp only [grant, grantScanLine]
    split <;> exact .of_ports rfl
  | lineFetch p => exact bounded_grantFetch p s
  | statusWriter =>
    simp only [grant, grantStatus]
    split <;> exact .of_ports rfl
  | intakeReader | setupLoader | slipWriter | trailerWriter => exact .of_ports rfl

theorem bounded_arbitrate (s : State) : Bounded s (arbitrate s) := by
  refine .ite (fun _ => ?_) fun _ => .refl s
  split
  · exact bounded_grant _ s
  · exact .refl s

theorem bounded_endForward {read : Bool} {want : WatchEvent → Bool} {f : WatchEvent → State → State}
    (each : ∀ e x, Bounded x (f e x)) (s : State) : Bounded s (endForward read want f s) := by
  unfold endForward
  split
  · exact .ite (fun _ => .refl s) fun _ => .after (each _ _) (.of_ports rfl)
  · exact .refl s

theorem bounded_postSlot (j : Nat) (s : State) : Bounded s (postSlot j s) := .ite (fun _ => .refl s) fun _ => .of_ports rfl

theorem bounded_takeSlot (i : Nat) (s : State) : Bounded s (takeSlot i s) := .after (bounded_judgeWriter _) (.of_ports rfl)

theorem bounded_startLoad (s : State) : Bounded s (startLoad s) := .ite (fun _ => .of_ports rfl) fun _ => .refl s

/-- R118: a frame that is patched keeps its units. -/
theorem bounded_patchTransfer (k : Fin 16) (n : Nat) (composed : List Nat) (a : DeskAccess) (lineAddr picSamples : Nat) (p : PortNo)
    (s : State) : Bounded s (patchTransfer k n composed a lineAddr picSamples p s) :=
  bounded_modLink (linkOk_mapTransfer fun x => by simp only [transferUnits, itemOf_patchFrame])

theorem bounded_endUpkeep (composed : List Nat) (s : State) : Bounded s (endUpkeep composed s) := by
  unfold endUpkeep
  split
  · exact .after (.forPorts (bounded_tellAltered _ _) _) (.after (bounded_modPic _ _ _) (.after (bounded_modStore _ _)
      (.after (.forPorts (bounded_patchTransfer _ _ _ _ _ _) _) (.of_ports rfl))))
  · exact .refl s

/-! ### The part's own units -/

theorem bounded_installLine (pic : Fin 16) (line : Nat) (bytes : List Byte) (s : State) : Bounded s (installLine pic line bytes s) := by
  unfold installLine
  dsimp only
  split
  · exact bounded_modStore _ s
  · split
    · exact .refl s
    · exact .after (bounded_answerWaiters _ _ _ _) (bounded_modStore _ s)

theorem bounded_completePicture (k : Fin 16) (s : State) : Bounded s (completePicture k s) :=
  .ite (fun _ => .after (bounded_scanEnd _ _) (bounded_modPic _ _ s)) fun _ => .refl s

theorem bounded_advanceMark (e : LineEntry) (s : State) : Bounded s (advanceMark e s) :=
  .after (bounded_completePicture _ _) (.after (.forPorts (bounded_lineReady _ _ _) _)
    (.after (bounded_installLine _ _ _ _) (bounded_modPic _ _ s)))

theorem bounded_endScanLine (s : State) : Bounded s (endScanLine s) := by
  unfold endScanLine
  split
  · split
    · exact bounded_endUnit _ s
    · exact .after (bounded_modPipe _ _) (.after (.ite (fun _ => bounded_advanceMark _ _) fun _ => .refl _) (bounded_endUnit _ s))
  · exact .refl s

theorem bounded_joinTrailers (f : LineFailure) (s : State) : Bounded s (joinTrailers f s) :=
  .ite (fun _ => .refl s) fun _ => .of_ports rfl

theorem bounded_releaseHeldFailure (s : State) : Bounded s (releaseHeldFailure s) := by
  unfold releaseHeldFailure
  split
  · exact .ite (fun _ => .after (bounded_joinTrailers _ _) (bounded_modStore _ s)) fun _ => .refl s
  · exact .refl s

theorem bounded_failFetch (p : PortNo) (stood : Bool) (f : LineFailure) (s : State) : Bounded s (failFetch p stood f s) :=
  .after (.ite (fun _ => bounded_joinTrailers _ _) fun _ => bounded_modStore _ _) (.after (bounded_raise _ _)
    (.after (.ite (fun _ => bounded_modCounts _ _ _) fun _ => .refl _) (.of_ports rfl)))

theorem bounded_unjoin (pic : Fin 16) (line : Nat) (s : State) : Bounded s (unjoin pic line s) := by
  refine .forPorts (fun p x => bounded_modPort fun ok => ?_) s
  split
  · split <;> exact ok
  · exact ok

theorem bounded_endFetch (p : PortNo) (pic : Fin 16) (line : Nat) (w : Bool) (trailerAddr : Nat) (dropped : Bool)
    (density trailer : List Byte) (s : State) : Bounded s (endFetch p pic line w trailerAddr dropped density trailer s) :=
  .ite (fun _ => .after (bounded_unjoin _ _ _) (bounded_modStore _ s)) fun _ => .after (bounded_answerWaiters _ _ _ _)
    (.after (.ite (fun _ => .refl _) fun _ => bounded_failFetch _ _ _ _) (bounded_modStore _ s))

theorem bounded_endLineFetch (s : State) : Bounded s (endLineFetch s) := by
  unfold endLineFetch
  split
  · exact .after (.forPorts bounded_service _) (.after (bounded_endFetch _ _ _ _ _ _ _ _ _) (bounded_endUnit _ s))
  · exact .refl s

theorem bounded_endTrailerFlag (s : State) : Bounded s (endTrailerFlag s) := by
  unfold endTrailerFlag
  split
  · exact .after (bounded_releaseHeldFailure _) (.of_ports rfl)
  · exact .refl s

theorem bounded_portFreed (p : PortNo) (s : State) : Bounded s (portFreed p s) :=
  .after (bounded_beginOrSelect _ _) (.ite (fun _ => bounded_emptySession p s) fun _ => .refl s)

theorem bounded_endSlipWrite (s : State) : Bounded s (endSlipWrite s) := by
  unfold endSlipWrite
  split
  · dsimp only
    split
    · exact bounded_endUnit _ s
    · exact .after (bounded_judgeWriter _) (.after (.ite (fun _ => bounded_portFreed _ _) fun _ => .refl _) (.of_ports rfl))
  · exact .refl s

theorem bounded_endStatusWrite (s : State) : Bounded s (endStatusWrite s) := by
  unfold endStatusWrite
  split
  · exact bounded_endUnit _ s
  · exact .refl s

theorem bounded_adopt (l : Loader) (s : State) : Bounded s (adopt l s) := .after (bounded_judgeWriter _) (.of_ports rfl)

theorem bounded_afterPart (part : Nat) (l : Loader) (s : State) : Bounded s (afterPart part l s) := by
  unfold afterPart
  split
  · exact .of_ports rfl
  · refine .ite (fun _ => .of_ports rfl) fun _ => ?_
    split
    · exact .of_ports rfl
    · exact .trans (bounded_adopt l s) (.of_ports rfl)

theorem bounded_endSetupPart (s : State) : Bounded s (endSetupPart s) := by
  unfold endSetupPart
  split
  · exact .after (bounded_afterPart _ _ _) (bounded_endUnit _ s)
  · exact .refl s

theorem bounded_endLoadResult (s : State) : Bounded s (endLoadResult s) := by
  unfold endLoadResult
  split <;> exact .of_ports rfl

theorem bounded_clockSecond (s : State) : Bounded s (clockSecond s) := .ite (fun _ => .of_ports rfl) fun _ => .refl s

/-! ### Job Intake -/

/-- R95: a job that gives way stands in the queue again only where that has room. -/
theorem bounded_giveWay (p : PortNo) (s : State) : Bounded s (giveWay p s) := by
  unfold giveWay
  split
  · exact .ite (fun room => bounded_modPort fun ok => ⟨ok.1, queueOk_insertBumped room ok.2⟩) fun _ =>
      .after (bounded_compose _ _) (bounded_modPort id)
  · exact .refl s

theorem bounded_dispatchScan (h : Hand) (id : Nat) (s : State) : Bounded s (dispatchScan h id s) :=
  .after (.of_ports rfl) (.after (.foldl (fun x p => .after (bounded_activate _ _ _ _) (bounded_giveWay p x)) _ _)
    (.after (bounded_takeScan _ _ _ _ _ _) (bounded_modPic _ _ s)))

/-- R96: a SEND that finds a place in its port's queue keeps the bound. -/
theorem bounded_dispatchSend {h : Hand} {s : State} (id : Nat)
    (room : s.ports[(Fin.ofNat 4 (recSendPort h.record))].queue.length < queueLimit) : Bounded s (dispatchSend h id s) := by
  refine .after (bounded_service _ _) (.after (bounded_select _ _) (.after (bounded_checkPreempt ?_) (.after (bounded_modPort fun ok =>
    ⟨ok.1, queueOk_insertSend room ok.2⟩) (.of_ports (b := openJobs 1 (takeRef (recSlot h.record) s)) rfl))))
  simp only [Fin.getElem_fin, modPort_same]
  exact mem_insertSend _ _

theorem bounded_detachTransfer (k : Fin 16) (p : PortNo) (s : State) : Bounded s (detachTransfer k p s) :=
  bounded_modLink (linkOk_mapTransfer fun x => by simp only [transferUnits, itemOf_detachFrame])

theorem bounded_releasePicture (k : Fin 16) (s : State) : Bounded s (releasePicture k s) :=
  .after (bounded_releaseHeldFailure _) (.trans (.forPorts (bounded_detachTransfer k) s) (.of_ports rfl))

theorem bounded_withdrawWaiting (p : PortNo) (s : State) : Bounded s (withdrawWaiting p s) := .of_ports (withdrawWaiting_ports p s)

theorem bounded_dispatchHoldPort (h : Hand) (s : State) : Bounded s (dispatchHoldPort h s) :=
  .ite (fun _ => .refl s) fun _ => .after (.ite (fun _ => .after (bounded_goOn _ _) (bounded_withdrawLive _ _ _)) fun _ => .refl _)
    (.after (bounded_withdrawWaiting _ _) (bounded_modPort id))

theorem bounded_checkHead (p : PortNo) (s : State) : Bounded s (checkHead p s) := by
  unfold checkHead
  split
  next j rest queue => exact bounded_checkPreempt (queue ▸ List.mem_cons_self)
  next => exact .refl s

theorem bounded_dispatchResumePort (h : Hand) (s : State) : Bounded s (dispatchResumePort h s) :=
  .ite (fun _ => .after (bounded_service _ _) (.after (bounded_select _ _) (.after (bounded_checkHead _ _)
    (.after (.ite (fun _ => bounded_bandStart _ _) fun _ => .refl _) (bounded_modPort id))))) fun _ => .refl s

/-- R93: a SEND job is taken only where its port's queue has a place (check 15). -/
theorem send_taken {s : State} {r : List Byte} (kind : kindOf r = some .send) (taken : refusalOf s r = none) :
    s.ports[(Fin.ofNat 4 (recSendPort r))].queue.length < queueLimit := by
  have passes := refusalOf_eq_none.1 taken
  have isSend : isKind r .send = true := isKind_iff.2 kind
  have known := passes (badPort r, 4) (by simp [jobChecks])
  have place := passes (isKind r .send && (namedPorts r).any fun p => decide (queueLimit ≤ s.ports[p].queue.length), 15) (by simp [jobChecks])
  have port : recSendPort r < 4 := by
    simp only [badPort, kind, decide_eq_false_iff_not] at known
    omega
  simpa [isSend, namedPorts, kind, port] using place

theorem bounded_abort (t : AbortTarget) (s : State) : Bounded s (forPorts (abortPort t) s) := .forPorts (bounded_abortPort t) s

theorem bounded_dispatch {k : JobKind} {h : Hand} (id : Nat) {s : State}
    (room : k = .send → s.ports[(Fin.ofNat 4 (recSendPort h.record))].queue.length < queueLimit) : Bounded s (dispatch k h id s) := by
  cases k with
  | scan => exact bounded_dispatchScan h id s
  | send => exact bounded_dispatchSend id (room rfl)
  | abortJob => exact bounded_abort (.id (recTarget h.record)) s
  | abortPicture =>
    show Bounded s (forPorts (abortPort (.picture (recSlot h.record))) (cutPicture (recSlot h.record) .aborted s))
    exact .after (bounded_abort _ _) (bounded_cutPicture _ _ s)
  | releasePicture =>
    show Bounded s (if s.pics[recSlot h.record].state = .empty then s else releasePicture (recSlot h.record) s)
    exact .ite (fun _ => .refl s) fun _ => bounded_releasePicture _ s
  | holdPort => exact bounded_dispatchHoldPort h s
  | resumePort => exact bounded_dispatchResumePort h s

theorem bounded_answer (h : Hand) (result : List Byte) (s : State) : Bounded s (answer h result s) :=
  .ite (fun _ => .of_ports rfl) fun _ => .of_ports rfl

theorem bounded_judgeJob (h : Hand) (s : State) : Bounded s (judgeJob h s) := by
  cases refusal : refusalOf s h.record with
  | some code =>
    rw [judgeJob_refused refusal]
    exact bounded_answer _ _ s
  | none =>
    obtain ⟨k, kind⟩ := kind_of_taken refusal
    rw [judgeJob_taken kind refusal]
    exact .after (bounded_answer _ _ _) (.after (bounded_dispatch _ fun isSend => send_taken (isSend ▸ kind) refusal) (.of_ports rfl))

theorem bounded_finishRead (addr : Nat) (s : State) : Bounded s (finishRead addr s) := .of_ports rfl

theorem bounded_endJobRead (s : State) : Bounded s (endJobRead s) := by
  unfold endJobRead
  split
  · dsimp only
    split
    · exact .after (bounded_judgeJob _ _) (bounded_finishRead _ s)
    · exact bounded_finishRead _ s
  · exact .refl s

theorem bounded_takenJob (k : JobKind) (s : State) : Bounded s (takenJob k s) := by
  obtain same | ⟨addr, h, -, -, -, -, judged⟩ := takenJob_cases k s
  · rw [same]
    exact .refl s
  · rw [judged]
    exact .after (bounded_judgeJob h _) (bounded_finishRead addr s)

theorem bounded_readerTake (s : State) : Bounded s (readerTake s) := by
  unfold readerTake
  split
  · exact .ite (fun _ => .of_ports rfl) fun _ => .refl s
  · exact .refl s

theorem bounded_endResultWrite (s : State) : Bounded s (endResultWrite s) := by
  unfold endResultWrite
  split <;> exact .of_ports rfl

end Sys2Proof.Machine
end

section
/-! PROOFS. What comes back from the couplers keeps every link and queue in its bounds, and so does every command (O58). -/

namespace Sys2Proof.Machine

/-! ### Frames and link reports -/

theorem handOver_rest (f : Frame) (dropped : Bool) (q : Port) : (handOver f dropped q).link = q.link ∧ (handOver f dropped q).queue = q.queue := by
  cases f with
  | phasing | trailer =>
    dsimp only [handOver]
    split <;> exact ⟨rfl, rfl⟩
  | _ => exact ⟨rfl, rfl⟩

theorem portOk_handOver {f : Frame} {dropped : Bool} {q : Port} (ok : portOk q) : portOk (handOver f dropped q) := by
  obtain ⟨link, queue⟩ := handOver_rest f dropped q
  rwa [portOk, link, queue]

theorem portOk_carried {x : Transfer} {q : Port} (transfer : q.link.transfer = some x) (ok : portOk q) : portOk (carried x q) :=
  ⟨(endTransfer_eq x (frameBytes x.frame) q.link).subst (motive := linkOk) (linkOk_endTransfer _ transfer ok.1), ok.2⟩

theorem bounded_frameEnd (p : PortNo) (s : State) : Bounded s (frameEnd p s) := by
  cases transfer : s.ports[p].link.transfer with
  | none =>
    rw [frameEnd, transfer]
    exact .refl s
  | some x =>
    rw [frameEnd_eq transfer]
    refine .after (bounded_service _ _) (.trans (b := modPort p
      (fun q => if x.orphan then carried x q else handOver x.frame x.dropped (carried x q)) s) (bounded_modPort fun ok => ?_) (.of_ports rfl))
    split
    · exact portOk_carried transfer ok
    · exact portOk_handOver (portOk_carried transfer ok)

theorem bounded_takeUp (p : PortNo) (s : State) : Bounded s (takeUp p s) :=
  .ite (fun _ => .after (bounded_service _ _) (.after (bounded_startTimer _ _ _ _) (.after (bounded_wish _ _ _)
    (.after (bounded_enterState _ _ _) (bounded_modLink (linkOk_linkUp _)))))) fun _ => .refl s

theorem bounded_takeFail (p : PortNo) (cause : FailCause) (s : State) : Bounded s (takeFail p cause s) :=
  .ite (fun _ => .after (bounded_endSession _ _ _ _) (bounded_modLink id)) fun _ => .refl s

theorem bounded_enterPhasing (p : PortNo) (round : Nat) (s : State) : Bounded s (enterPhasing p round s) :=
  .after (bounded_modSession _ _ _) (bounded_enterState _ _ s)

theorem bounded_itemPlayed (p : PortNo) (i : Item) (s : State) : Bounded s (itemPlayed p i s) := by
  unfold itemPlayed
  dsimp only
  split
  · exact bounded_enterPhasing p 1 s
  · exact .ite (fun _ => .after (bounded_startTimer _ _ _ _) (bounded_enterState _ _ s)) fun _ => .refl s
  · exact bounded_boundary .refl s
  · exact .ite (fun _ => .after (.ite (fun _ => bounded_modPipe _ _) fun _ => .refl _) (bounded_startTimer _ _ _ s)) fun _ => .refl s
  · exact .ite (fun _ => bounded_startTimer _ _ _ s) fun _ => .refl s
  · exact bounded_startTimer _ _ _ s
  · exact bounded_releaseParted p s
  · exact .refl s

theorem bounded_takeDoneItem (p : PortNo) (s : State) : Bounded s (takeDoneItem p s) := by
  unfold takeDoneItem
  split
  next i l taken =>
    exact .after (bounded_service _ _) (.after (bounded_itemPlayed _ _ _) (bounded_modLink (linkOk_takeDone taken)))
  next => exact .refl s

theorem bounded_takeDoneFlush (p : PortNo) (s : State) : Bounded s (takeDoneFlush p s) :=
  .ite (fun _ => .after (bounded_service _ _) (bounded_modLink id)) fun _ => .refl s

theorem bounded_takeSlack (p : PortNo) (s : State) : Bounded s (takeSlack p s) := .ite (fun _ => bounded_modCounts _ _ s) fun _ => .refl s

theorem bounded_endClose (p : PortNo) (received : Bool) (s : State) : Bounded s (endClose p received s) := by
  unfold endClose
  split
  · exact bounded_endSession _ _ _ s
  · exact .refl s

theorem bounded_sessionLost (p : PortNo) (s : State) : Bounded s (sessionLost p s) := by
  unfold sessionLost
  split
  · exact bounded_endClose p _ s
  · exact bounded_releaseParted p s
  · exact .refl s
  · exact .refl s
  · exact .refl s
  · exact .refl s
  · exact bounded_endSession _ _ _ s

theorem bounded_takeDropCarrier (p : PortNo) (s : State) : Bounded s (takeDropCarrier p s) :=
  .ite (fun _ => .after (bounded_sessionLost _ _) (bounded_modLink linkOk_loseCarrier)) fun _ => .refl s

theorem bounded_completeRelease (p : PortNo) (s : State) : Bounded s (completeRelease p s) :=
  .after (bounded_releaseComplete _ _) (bounded_modLink id)

theorem bounded_takeDropOnHook (p : PortNo) (s : State) : Bounded s (takeDropOnHook p s) :=
  .ite (fun _ => bounded_completeRelease p s) fun _ => .refl s

theorem bounded_releaseExpiry (p : PortNo) (s : State) : Bounded s (releaseExpiry p s) :=
  .ite (fun _ => bounded_completeRelease p s) fun _ => .refl s

/-! ### Far signals -/

theorem bounded_takeReady (p : PortNo) (rpm ioc : Nat) (capable : Bool) (s : State) : Bounded s (takeReady p rpm ioc capable s) := by
  unfold takeReady
  split
  · exact .refl s
  · exact .after (.ite (fun _ => bounded_endSession _ _ _ _) fun _ =>
      .after (.ite (fun _ => bounded_enterState _ _ _) fun _ => bounded_enterPhasing _ _ _)
        (.ite (fun _ => bounded_withdrawLive _ _ _) fun _ => .refl _)) (bounded_modSession _ _ s)

theorem bounded_stopVerdict (p : PortNo) (s : State) : Bounded s (stopVerdict p s) :=
  bounded_modPort fun ok => ⟨linkOk_calmLink ok.1, ok.2⟩

theorem bounded_againVerdict (p : PortNo) (s : State) : Bounded s (againVerdict p s) :=
  .after (.ite (fun _ => bounded_endSession _ _ _ _) fun _ => .after (bounded_bandStart _ _) (bounded_leaveLive _ _ _))
    (bounded_modSession _ _ s)

theorem bounded_waitVerdict (p : PortNo) (s : State) : Bounded s (waitVerdict p s) :=
  .after (.ite (fun _ => bounded_endSession _ _ _ _) fun _ => .after (bounded_startTimer _ _ _ _) (.after (bounded_enterState _ _ _)
    (.after (bounded_leaveLive _ _ _) (bounded_modSession _ _ _)))) (bounded_modSession _ _ s)

theorem bounded_nextBand (p : PortNo) (s : State) : Bounded s (nextBand p s) := by
  unfold nextBand
  split
  · exact .refl s
  · exact .ite (fun _ => bounded_closeSession p s) fun _ => .after (bounded_boundary (bounded_bandStart p) _) (bounded_modSession _ _ s)

theorem bounded_goodVerdict (p : PortNo) (s : State) : Bounded s (goodVerdict p s) :=
  .after (.ite (fun _ => .after (bounded_bandStart _ _) (.after (bounded_leaveLive _ _ _) (bounded_modSession _ _ _))) fun _ =>
    .ite (fun _ => .after (bounded_nextBand _ _) (bounded_modCounts _ _ _)) fun _ => bounded_nextBand _ _)
    (.after (bounded_modSession _ _ _) (.ite (fun _ => bounded_modPipe _ s) fun _ => .refl s))

theorem bounded_takeGood (p : PortNo) (a : Bool) (s : State) : Bounded s (takeGood p a s) :=
  .after (.ite (fun _ => bounded_goodVerdict _ _) fun _ => .after (bounded_againVerdict _ _) (bounded_countNoise _ _)) (bounded_stopVerdict p s)

theorem bounded_collide (p : PortNo) (s : State) : Bounded s (collide p s) :=
  .after (.ite (fun _ => bounded_endSession _ _ _ _) fun _ => .after (bounded_startTimer _ _ _ _) (.after (bounded_enterState _ _ _)
    (bounded_leaveLive _ _ _))) (.after (bounded_modSession _ _ _) (.after (bounded_withdrawWait _ _) (.after (bounded_dropPins _ _)
      (bounded_modLink linkOk_askFlush))))

theorem bounded_takeHang (p : PortNo) (s : State) : Bounded s (takeHang p s) := by
  unfold takeHang
  split
  · exact bounded_endClose p _ s
  · exact bounded_releaseParted p s
  · exact .refl s
  · exact .refl s
  · exact .refl s
  · exact .refl s
  · exact bounded_endSession _ _ _ s

theorem bounded_takeReceipt (p : PortNo) (n : Nat) (s : State) : Bounded s (takeReceipt p n s) :=
  .after (bounded_endClose _ _ _) (bounded_modCounts _ _ s)

theorem bounded_unexpected (p : PortNo) (s : State) : Bounded s (unexpected p s) := by
  unfold unexpected
  split
  · exact bounded_collide p s
  · exact .refl s
  · exact .refl s
  · exact .refl s
  · exact .refl s
  · exact bounded_countNoise p s

theorem bounded_takeSignal (p : PortNo) (sig : FarSignal) (s : State) : Bounded s (takeSignal p sig s) := by
  cases sig with
  | hang => exact bounded_takeHang p s
  | ready rpm ioc capable => exact .ite (fun _ => bounded_takeReady _ _ _ _ s) fun _ => bounded_unexpected p s
  | phased => exact .ite (fun _ => bounded_reachPhasing p s) fun _ => bounded_unexpected p s
  | goodA | goodB => exact .ite (fun _ => bounded_takeGood p _ s) fun _ => bounded_unexpected p s
  | again => exact .ite (fun _ => .after (bounded_againVerdict _ _) (bounded_stopVerdict p s)) fun _ => bounded_unexpected p s
  | wait => exact .ite (fun _ => .after (bounded_waitVerdict _ _) (bounded_stopVerdict p s)) fun _ => bounded_unexpected p s
  | receipt n => exact .ite (fun _ => bounded_takeReceipt p n s) fun _ => bounded_unexpected p s

theorem bounded_judged (p : PortNo) (sig : Option FarSignal) (s : State) : Bounded s (judged p sig s) := by
  cases sig with
  | some sig => exact .after (bounded_service _ _) (bounded_takeSignal p sig s)
  | none => exact bounded_countNoise p s

theorem bounded_takeHeard (p : PortNo) (code : Byte) (duration : Nat) (data : List Byte) (s : State) :
    Bounded s (takeHeard p code duration data s) :=
  .ite (fun _ => .ite (fun _ => bounded_judged p _ s) fun _ => bounded_countNoise p s) fun _ => .refl s

theorem bounded_hearSignal (p : PortNo) (code : Byte) (data : List Byte) (s : State) : Bounded s (hearSignal p code data s) :=
  .ite (fun _ => bounded_judged p _ s) fun _ => .refl s

/-! ### Session timers -/

theorem bounded_expire {kind : TimerKind} {f : PortNo → State → State} {p : PortNo} (follows : ∀ x, Bounded x (f p x)) (s : State) :
    Bounded s (expire kind f p s) :=
  .ite (fun _ => .after (bounded_service _ _) (.after (follows _) (bounded_modSession _ _ s))) fun _ => .refl s

theorem bounded_phasedExpiry (p : PortNo) (s : State) : Bounded s (phasedExpiry p s) :=
  .ite (fun _ => bounded_enterPhasing _ _ s) fun _ => bounded_endSession _ _ _ s

theorem bounded_verdictExpiry (p : PortNo) (s : State) : Bounded s (verdictExpiry p s) :=
  .ite (fun _ => .after (bounded_wish _ _ _) (bounded_modSession _ _ s)) fun _ => bounded_endSession _ _ _ s

theorem bounded_waitExpiry (p : PortNo) (s : State) : Bounded s (waitExpiry p s) :=
  .after (bounded_verdictExpiry _ _) (bounded_enterState _ _ s)

/-! ### Every command -/

theorem bounded_effectOf (c : Instr) (s : State) : Bounded s (effectOf c s) := by
  cases c with
  | powerOn | warmReset | resetRelease | deskAccess | deskClockSecond | reportDiscarded => exact .refl s
  | arbiterGrant t => exact bounded_arbitrate s
  | deskWrite | deskRead => exact bounded_endForward (fun _ x => .refl x) s
  | postWordWrite t =>
    rw [effectOf]
    refine bounded_endForward (fun e x => ?_) s
    cases e with
    | post j => exact bounded_postSlot j x
    | _ => exact .refl x
  | markWordWrite t =>
    rw [effectOf]
    refine bounded_endForward (fun e x => ?_) s
    cases e with
    | mark i => exact bounded_takeSlot i x
    | _ => exact .refl x
  | loadWordWrite t => exact bounded_endForward (fun _ x => bounded_startLoad x) s
  | clearWordWrite t =>
    rw [effectOf]
    refine bounded_endForward (fun e x => ?_) s
    cases e with
    | clear cs => exact .of_ports rfl
    | _ => exact .refl x
  | checkUpkeepUnitEnd t composed => exact bounded_endUpkeep composed s
  | scanLineWriteEnd t => exact bounded_endScanLine s
  | lineFetchEnd t => exact bounded_endLineFetch s
  | trailerFlagUnitEnd t => exact bounded_endTrailerFlag s
  | slipRecordWriteEnd t => exact bounded_endSlipWrite s
  | statusRecordWriteEnd t => exact bounded_endStatusWrite s
  | intakeReaderTake t => exact bounded_readerTake s
  | jobRecordReadEnd t => exact bounded_endJobRead s
  | scan | send | abortJob | abortPicture | releasePicture | holdPort | resumePort => exact bounded_takenJob _ s
  | resultWordWriteEnd t => exact bounded_endResultWrite s
  | setupPartReadEnd t => exact bounded_endSetupPart s
  | loadResultWriteEnd t => exact bounded_endLoadResult s
  | tachPulse t => exact bounded_tachPulse s
  | indexPulse t => exact .ite (fun _ => bounded_indexPulse s) fun _ => .refl s
  | conversionRequest | codeReady => exact bounded_modPipe _ s
  | stallTimerExpiry | spinUpTimerExpiry | slipTimerExpiry | homingLimitExpiry =>
    exact .ite (fun _ => bounded_drumFault _ s) fun _ => .refl s
  | idleSpinTimerExpiry | coastTimerExpiry => exact .ite (fun _ => bounded_modDrum _ s) fun _ => .refl s
  | coverOpen t => exact bounded_openCover s
  | coverClose | homeSwitchOpen | homingStep | carriageStep => exact bounded_modDrum _ s
  | settleTimerExpiry t => exact bounded_settleLamp s
  | homeSwitchClose t => exact bounded_closeHome s
  | startLimitTimerExpiry t => exact bounded_startLimitExpiry s
  | frameTransferEnd t p => exact bounded_frameEnd p s
  | up t p => exact bounded_takeUp p s
  | fail t p cause => exact bounded_takeFail p cause s
  | doneItem t p => exact bounded_takeDoneItem p s
  | doneFlush t p => exact bounded_takeDoneFlush p s
  | slack t p => exact bounded_takeSlack p s
  | heard t p code duration data => exact bounded_takeHeard p code duration.toNat data s
  | ready t p | phased t p | goodA t p | goodB t p | again t p | wait t p | receipt t p | hang t p => exact bounded_hearSignal p _ _ s
  | dropCarrier t p => exact bounded_takeDropCarrier p s
  | dropOnHook t p => exact bounded_takeDropOnHook p s
  | releaseTimerExpiry t p => exact bounded_releaseExpiry p s
  | seizeTimerExpiry t p => exact bounded_expire (f := fun p => endSession p .lineFailed 0) (bounded_endSession p _ _) s
  | readyTimerExpiry t p => exact bounded_expire (f := fun p => endSession p .noAnswer 0) (bounded_endSession p _ _) s
  | phasedTimerExpiry t p => exact bounded_expire (bounded_phasedExpiry p) s
  | verdictTimerExpiry t p => exact bounded_expire (bounded_verdictExpiry p) s
  | waitTimerExpiry t p => exact bounded_expire (bounded_waitExpiry p) s
  | quietTimerExpiry t p => exact bounded_expire (bounded_bandStart p) s
  | receiptTimerExpiry t p => exact bounded_expire (f := fun p => endClose p false) (bounded_endClose p _) s

/-- A reset puts every port to its reset state. -/
theorem bounded_reset {b : State} (a : State) (same : b.ports = State.reset.ports) : Bounded a b := by
  obtain ⟨-, -, -, -, links, queues, -, -⟩ := resetSatisfiesTheInvariants
  exact fun _ => Bounded.of_ports same ((inBounds_iff _).2 ⟨links, queues⟩)

/-- Every command keeps the links and the queues in their bounds. -/
theorem bounded_exec {s s' : State} {c : Instr} (next : exec c s = .next s') : Bounded s s' := by
  have noted (a b : State) : Bounded b (noteChanges a b) := .of_ports (noteChanges_ports a b)
  have advanced (t : Nat) : Bounded s (advance t s) := .of_ports rfl
  cases wraps : unwrapped c with
  | false =>
    rw [exec_effectOf c s wraps, act] at next
    cases next
    exact .ite (fun _ => advanced _) fun _ => .after (noted _ _) (.after (bounded_effectOf c _) (advanced _))
  | true =>
    cases c with
    | powerOn t =>
      cases next
      exact bounded_reset s rfl
    | warmReset t made =>
      cases next
      exact .ite (fun _ => advanced t) fun _ => bounded_reset s rfl
    | resetRelease | deskAccess =>
      cases next
      exact .ite (fun _ => .of_ports rfl) fun _ => .of_ports rfl
    | deskClockSecond t =>
      cases next
      have second : Bounded s (clockSecond (advance t s)) := .after (bounded_clockSecond _) (advanced t)
      exact .ite (fun _ => second) fun _ => .after (noted _ _) second
    | _ => exact absurd wraps Bool.false_ne_true

theorem bounded_step {s s' : State} (next : step s = .next s') : Bounded s s' := by
  unfold step at next
  split at next
  · cases next
    exact .refl s
  next rest _ => exact .trans (.of_ports (b := { s with pending := rest }) rfl) (bounded_exec next)

/-- Settles O58: an item starts only where its link has room, and a job joins a queue only where it has a place; every command is made
of operations that keep to this. -/
theorem linksAndQueuesStayInBounds : Obligations.LinksAndQueuesStayInBounds :=
  fun s s' links queues next => (inBounds_iff s').1 (bounded_step next ((inBounds_iff s).2 ⟨links, queues⟩))

end Sys2Proof.Machine
end

section
/-! PROOFS. The ends of the writes that answer (O15). -/

namespace Sys2Proof.Machine

theorem endResultWrite_eq {s : State} {addr : Nat} {bytes : List Byte} (unit : s.unit = some (.resultWrite addr bytes)) :
    endResultWrite s = { s with
      mem := applyAccesses s.mem [accessOf addr bytes], unit := none, intake := { s.intake with hand := none }
      notice := { s.notice with flags := s.notice.flags ||| 1 } } := by
  simp only [endResultWrite, unit]
  rfl

theorem endLoadResult_eq {s : State} {bytes : List Byte} (unit : s.unit = some (.loadResult bytes)) : endLoadResult s = { s with
    mem := applyAccesses s.mem [accessOf (setupBase s.strap + 4) bytes], unit := none, loadResult := bytes
    loader := { s.loader with phase := .idle }, notice := { s.notice with flags := s.notice.flags ||| 256 } } := by
  simp only [endLoadResult, unit]
  rfl

theorem endStatusWrite_eq {s : State} {i : Fin 27} {addr : Nat} {bytes : List Byte} {count : Byte}
    (unit : s.unit = some (.statusWrite i addr bytes count)) :
    endStatusWrite s = { s with mem := applyAccesses s.mem (statusAccesses addr bytes count), unit := none } := by
  simp only [endStatusWrite, unit]
  rfl

/-- Settles O15: each of the three ends as one change of the state. -/
theorem answerWritesEnd : Obligations.AnswerWritesEnd := by
  intro t s addr bytes running a
  refine ⟨fun unit => ?result, fun unit => ?load, fun i count unit => ?status⟩
  case result => exact exec_takes running rfl (endResultWrite_eq (s := a) unit)
  case load => exact exec_takes running rfl (endLoadResult_eq (s := a) unit)
  case status => exact exec_takes running rfl (endStatusWrite_eq (s := a) unit)

end Sys2Proof.Machine
end

section
/-! PROOFS. The release of a port's line, and what follows its completion (O26). -/

namespace Sys2Proof.Machine

/-! ### FLUSH and RELEASE on the link -/

theorem dropTransfer_free {l : Link} (free : l.transfer = none) : dropTransfer l = l := by
  rw [dropTransfer, free, Option.map_none, ← free]

/-- R112, R114: a frame that hands over an item goes on without it. -/
theorem dropTransfer_busy {l : Link} {y : Transfer} (busy : l.transfer = some y) : dropTransfer l =
    { l with transfer := some { y with dropped := y.dropped || (itemOf y.frame).isSome } } := by
  rw [dropTransfer, busy, Option.map_some]
  cases (itemOf y.frame).isSome <;> simp

theorem sendFrame_busy {l : Link} {y : Transfer} (busy : l.transfer = some y) (f : Frame) :
    sendFrame f l = { l with frames := l.frames ++ [f] } := by
  simp only [sendFrame, busy]

theorem askFlush_off {l : Link} (off : l.state ≠ .connected) : askFlush l = l := if_neg off

theorem askFlush_free {l : Link} (connected : l.state = .connected) (free : l.transfer = none) : askFlush l =
    { l with outstanding := [], flushing := true, transfer := some { frame := .flush } } := by
  rw [askFlush, if_pos connected, dropTransfer_free free]
  exact sendFrame_free (l := { l with outstanding := [], flushing := true }) free .flush

theorem askFlush_busy {l : Link} {y : Transfer} (connected : l.state = .connected) (busy : l.transfer = some y) : askFlush l =
    { l with
      outstanding := [], flushing := true, transfer := some { y with dropped := y.dropped || (itemOf y.frame).isSome }
      frames := l.frames ++ [.flush] } := by
  rw [askFlush, if_pos connected, dropTransfer_busy busy, sendFrame_busy rfl]

theorem askRelease_off {l : Link} (now : Nat) (off : l.state = .onHook ∨ l.state = .releasing) : askRelease now l = l := by
  refine if_neg ?_
  rcases off with state | state <;> simp [state]

section
variable {l : Link} (now : Nat) (up : l.state = .dialling ∨ l.state = .connected)
include up

theorem askRelease_free (free : l.transfer = none) : askRelease now l =
    { l with
      state := .releasing, outstanding := [], flushing := false, releaseTimer := some (now + 60000000)
      transfer := some { frame := .release } } := by
  rw [askRelease, if_pos up, dropTransfer_free free]
  exact sendFrame_free (l := { l with
    state := .releasing, outstanding := [], flushing := false, releaseTimer := some (now + releaseTime) }) free .release

theorem askRelease_busy {y : Transfer} (busy : l.transfer = some y) : askRelease now l =
    { l with
      state := .releasing, outstanding := [], flushing := false, releaseTimer := some (now + 60000000)
      transfer := some { y with dropped := y.dropped || (itemOf y.frame).isSome }, frames := l.frames ++ [.release] } := by
  rw [askRelease, if_pos up, dropTransfer_busy busy, sendFrame_busy rfl]
  rfl
end

/-- R114: a FLUSH is asked for where the session wants one and the link is CONNECTED. -/
theorem asked_plain {flush : Bool} {l : Link} (plain : ¬(flush = true ∧ l.state = .connected)) : (if flush then askFlush l else l) = l := by
  by_cases flushes : flush = true
  · rw [if_pos flushes, askFlush_off fun connected => plain ⟨flushes, connected⟩]
  · rw [if_neg flushes]

section
variable {l : Link} (now : Nat) (connected : l.state = .connected)
include connected

/-- R111, R114: RELEASE follows the FLUSH asked for with it. -/
theorem askRelease_flushed_free (free : l.transfer = none) : askRelease now (askFlush l) =
    { l with
      state := .releasing, outstanding := [], flushing := false, releaseTimer := some (now + 60000000)
      transfer := some { frame := .flush }, frames := l.frames ++ [.release] } := by
  rw [askFlush_free connected free]
  exact askRelease_busy (l := { l with outstanding := [], flushing := true, transfer := some { frame := .flush } }) now (.inr connected) rfl

theorem askRelease_flushed_busy {y : Transfer} (busy : l.transfer = some y) : askRelease now (askFlush l) =
    { l with
      state := .releasing, outstanding := [], flushing := false, releaseTimer := some (now + 60000000)
      transfer := some { y with dropped := y.dropped || (itemOf y.frame).isSome }, frames := l.frames ++ [.flush, .release] } := by
  rw [askFlush_busy connected busy]
  refine (askRelease_busy (l := { l with
    outstanding := [], flushing := true, transfer := some { y with dropped := y.dropped || (itemOf y.frame).isSome }
    frames := l.frames ++ [.flush] }) now (.inr connected) rfl).trans ?_
  simp only [List.append_assoc, List.cons_append, List.nil_append, Bool.or_assoc, Bool.or_self]
end

/-! ### The release of the line -/

/-- R112: a link that is RELEASING already is left as it is, and on an ON-HOOK one the release is complete. -/
theorem releaseLine_off {p : PortNo} {s : State} (flush : Bool)
    (off : s.ports[p].link.state = .onHook ∨ s.ports[p].link.state = .releasing) : releaseLine p flush s =
    if s.ports[p].link.state = .onHook then releaseComplete p s else s := by
  have away : s.ports[p].link.state ≠ .connected := by
    rcases off with state | state <;> rw [state] <;> decide
  have same : modLink p (fun l => askRelease s.now (if flush then askFlush l else l)) s = s := by
    refine modPort_unchanged ?_
    simp only [askFlush_off away, ite_self, askRelease_off s.now off]
  simp only [releaseLine, same]

/-- R112, R144: a link that is up gets what is asked for, and is RELEASING. -/
theorem releaseLine_up {p : PortNo} {s : State} {flush : Bool} {m : Link}
    (asked : askRelease s.now (if flush then askFlush s.ports[p].link else s.ports[p].link) = m) (releasing : m.state = .releasing) :
    releaseLine p flush s = { s with ports := s.ports.set p { s.ports[p] with link := m } } := by
  have isUp : (modLink p (fun l => askRelease s.now (if flush then askFlush l else l)) s).ports[p].link.state ≠ .onHook := by
    simp only [Fin.getElem_fin, modLink_same]
    subst asked
    exact fun hook => absurd (releasing.symm.trans hook) (by decide)
  rw [releaseLine]
  refine (if_neg isUp).trans ?_
  subst asked
  rfl

/-! ### The completion of the release -/

theorem releaseComplete_other {p : PortNo} {s : State} (other : s.ports[p].session.state ≠ .releasing) : releaseComplete p s = s :=
  if_neg other

/-- R144: where an outcome is pending, the session has ended. -/
theorem releaseComplete_decided {p : PortNo} {s : State} {o : PendingOutcome} (releasing : s.ports[p].session.state = .releasing)
    (outcome : s.ports[p].session.outcome = some o) : releaseComplete p s = finishEnded p s := by
  rw [releaseComplete, if_pos releasing]
  simp only [outcome]

section
variable {p : PortNo} {s : State} {j : Job} (releasing : s.ports[p].session.state = .releasing) (job : s.ports[p].session.job = some j)
include releasing job

/-- R144: an ended session is composed into its slip, and stands in SLIP-WAIT. -/
theorem releaseComplete_ended {o : PendingOutcome} (outcome : s.ports[p].session.outcome = some o) : releaseComplete p s =
    compose (slipOfSession (modCounts p (fun c => { c with endTime := s.clock.seconds }) s) p j o) (modPort p (fun q =>
      { q with
        active := none, preempt := false, lineTimes := [], link := orphan q.link
        session := { q.session with
          state := .slipWait, timer := none, counts := { q.session.counts with endTime := s.clock.seconds } } }) s) := by
  rw [releaseComplete_decided releasing outcome]
  simp only [outcome, finishEnded, job, modCounts, modSession, modPort_modPort]

/-- R104, R146: the context of a parted session is saved. -/
theorem releaseComplete_parted (undecided : s.ports[p].session.outcome = none) (parted : s.ports[p].session.ending = .parted) :
    releaseComplete p s = select p (modPort p (fun q =>
      { q with
        active := none, session := {}, lineTimes := [], link := orphan q.link
        contexts := q.contexts ++ [contextOf q.session j] }) s) := by
  rw [releaseComplete, if_pos releasing]
  simp only [undecided, parted, saveContext, job, emptySession, modPort_modPort]

omit job in
/-- R102, R145: a bumped session leaves the port to its active job. -/
theorem releaseComplete_bumped (undecided : s.ports[p].session.outcome = none) (bumped : s.ports[p].session.ending = .bumped) :
    releaseComplete p s = beginOrSelect p (emptySession p s) := by
  rw [releaseComplete, if_pos releasing]
  simp only [undecided, bumped]
end

/-- Settles O26: FLUSH and RELEASE by the link's state and the frame in transfer, the completion by the session's ending. -/
theorem linesAreReleased : Obligations.LinesAreReleased := by
  intro s p q x l port
  refine ⟨fun flush => ?line, askFlush_off, fun connected => ⟨askFlush_free connected, fun y => askFlush_busy connected⟩,
    releaseComplete_other, fun releasing j job => ⟨fun o outcome => ?ended, fun undecided parted => ?parted, fun undecided bumped => ?bumped⟩⟩
  case line =>
    intro gone flushed
    refine ⟨fun hook => ?_, fun released => ?_, fun up => ⟨fun free => ?_, fun y busy => ?_⟩⟩
    · rw [releaseLine_off flush (.inl hook), if_pos hook]
    · rw [releaseLine_off flush (.inr released), if_neg (by rw [show s.ports[p].link.state = .releasing from released]; decide)]
    · refine releaseLine_up ?_ rfl
      by_cases both : flushed
      · rw [if_pos both, if_pos both, if_pos both.1, askRelease_flushed_free s.now both.2 free]
      · rw [if_neg both, if_neg both, asked_plain both, askRelease_free s.now up free, List.append_nil]
    · refine releaseLine_up ?_ rfl
      by_cases both : flushed
      · rw [if_pos both, if_pos both.1, askRelease_flushed_busy s.now both.2 busy]
      · rw [if_neg both, asked_plain both, askRelease_busy s.now up busy]
  case ended => exact releaseComplete_ended releasing job outcome
  case parted => exact releaseComplete_parted releasing job undecided parted
  case bumped => exact releaseComplete_bumped releasing undecided bumped

end Sys2Proof.Machine
end

section
/-! PROOFS. The selection of a free port, and the beginning of a session (O28). -/

namespace Sys2Proof.Machine

/-! ### What keeps a port from selecting -/

/-- R162: a pending slip of the port blocks it, unless it is an ABORTED-UNSENT one. -/
theorem blockingPending_iff (c : Composer) (p : PortNo) : blockingPending c p = true ↔
    ∃ y ∈ c.pending, y.port = p ∧ y.outcome ≠ .abortedUnsent := by
  simp [blockingPending, blocking]

theorem not_blockingPending_iff (c : Composer) (p : PortNo) : blockingPending c p = false ↔
    ¬∃ y ∈ c.pending, y.port = p ∧ y.outcome ≠ .abortedUnsent := by
  rw [← blockingPending_iff, Bool.not_eq_true]

theorem freePort_iff (s : State) (p : PortNo) : freePort s p = true ↔ s.ports[p].active = none ∧ s.ports[p].session.state = .idle ∧
    s.ports[p].hold = false ∧ ¬∃ y ∈ s.composer.pending, y.port = p ∧ y.outcome ≠ .abortedUnsent := by
  simp only [freePort, Bool.and_eq_true, Option.isNone_iff_eq_none, decide_eq_true_eq, Bool.not_eq_true', not_blockingPending_iff,
    and_assoc]

/-! ### Selection -/

theorem select_busy {p : PortNo} {s : State} (busy : ¬freePort s p = true) : select p s = s := if_neg busy

section
variable {p : PortNo} {s : State} (free : freePort s p = true)
include free

theorem select_none (queue : s.ports[p].queue = []) (contexts : s.ports[p].contexts = []) : select p s = s := by
  rw [select, if_pos free]
  simp only [queue, contexts, List.getLast?_nil]

/-- R100: the head of the queue is taken where it outranks the context saved last. -/
theorem select_job {j : Job} {rest : List Job} (queue : s.ports[p].queue = j :: rest)
    (outranks : ∀ c ∈ s.ports[p].contexts.getLast?, c.job.prio < j.prio) :
    select p s = startJob p j false (modPort p (fun q => { q with queue := rest }) s) := by
  rw [select, if_pos free]
  cases last : s.ports[p].contexts.getLast? with
  | none => simp only [queue]
  | some c =>
    simp only [queue]
    exact if_pos (outranks c last)

/-- R100: the context saved last is taken where the head of the queue does not outrank it. -/
theorem select_context {cs : List Context} {c : Context} (contexts : s.ports[p].contexts = cs ++ [c])
    (stands : ∀ j ∈ s.ports[p].queue.head?, j.prio ≤ c.job.prio) :
    select p s = startContext p c (modPort p (fun q => { q with contexts := cs }) s) := by
  have left : modPort p (fun q => { q with contexts := q.contexts.dropLast }) s = modPort p (fun q => { q with contexts := cs }) s :=
    modPort_congr (by rw [contexts, List.dropLast_concat])
  rw [select, if_pos free]
  cases queue : s.ports[p].queue with
  | nil => simp only [contexts, List.getLast?_concat, left]
  | cons j rest =>
    simp only [contexts, List.getLast?_concat, left]
    exact if_neg (not_lt.2 (stands j (congrArg List.head? queue)))
end

/-! ### The beginning of a session -/

section
variable {p : PortNo} {j : Job} {x : Session} {s : State}

/-- R130: a session whose picture is CUT at or below its band is SHORT at once. -/
theorem startWith_short (short : s.pics[j.pic].state = .cut ∧ s.pics[j.pic].mark ≤ x.band * s.cfg.ports[p].bandLength) :
    startWith p j x s = releaseComplete p (modPort p (fun q =>
      { q with
        active := some { job := j, begun := true }, lineTimes := []
        session := { x with state := .releasing, outcome := some { outcome := .short } } }) s) := by
  rw [releaseComplete_decided (o := { outcome := .short }) (by simp) (by simp)]
  refine (if_pos short).trans ?_
  rw [modSession, modPort_modPort]

/-- R130: another seizes the line; the link is DIALLING (log 13). -/
theorem startWith_seizes (line : ¬(s.pics[j.pic].state = .cut ∧ s.pics[j.pic].mark ≤ x.band * s.cfg.ports[p].bandLength)) :
    startWith p j x s = modPort p (fun q =>
      { q with
        active := some { job := j, begun := true }, lineTimes := []
        session := { x with state := .seizing, timer := some { kind := .seize, expiry := s.now + 60000000 } }
        link := match q.link.transfer with
          | none => { q.link with state := .dialling, transfer := some { frame := .seize j.dest } }
          | some _ => { q.link with state := .dialling, frames := q.link.frames ++ [.seize j.dest] } }) s := by
  refine (if_neg line).trans ?_
  rw [modLink, modSession, modPort_modPort, modPort_modPort]
  rfl
end

/-- Settles O28: selection by the queue and the contexts of a free port, and the beginning of a session by its picture. -/
theorem portsSelect : Obligations.PortsSelect := by
  intro s p q port blocked free begins
  have isFree : freePort s p = true ↔ free := freePort_iff s p
  have isBlocked : blockingPending s.composer p = true ↔ blocked := blockingPending_iff s.composer p
  have begun (j : Job) (x : Session) : begins j x (startWith p j x s) :=
    ⟨fun short => startWith_short short, fun line => startWith_seizes line⟩
  refine ⟨fun busy => select_busy (mt isFree.1 busy), fun is => ⟨select_none (isFree.2 is), fun j rest => select_job (isFree.2 is),
    fun cs c => select_context (isFree.2 is)⟩, fun j candidate => begun j _, fun c => begun c.job _, fun j candidate => ?activates,
    fun idle => ?selects, fun a active => ?waits⟩
  case activates => exact if_congr isBlocked rfl rfl
  case selects => simp only [beginOrSelect, show s.ports[p].active = none from idle]
  case waits =>
    simp only [beginOrSelect, show s.ports[p].active = some a from active]
    exact if_congr (and_congr_right' (and_congr_right' (not_blockingPending_iff _ _))) rfl rfl

end Sys2Proof.Machine
end

section
/-! PROOFS. What a session does when an item of its has been played, and a band boundary (O31). -/

namespace Sys2Proof.Machine

section
variable {p : PortNo} {s : State}

/-! ### An item played, by the state of the session that hears of it -/

theorem itemPlayed_text (caption : s.ports[p].session.state = .caption) : itemPlayed p .text s = modSession p (fun x =>
    { x with state := .phasing, timer := none, round := 1, phasingHanded := 0 }) s := by
  simp only [itemPlayed, caption, enterPhasing, enterState, modSession, modPort_modPort]

/-- R134: the last phasing line of a round starts the wait for PHASED. -/
theorem itemPlayed_phasing (n : Nat) (phasing : s.ports[p].session.state = .phasing) : itemPlayed p (.phasing n) s =
    if n = s.cfg.ports[p].phasingLines then modSession p (fun x =>
      { x with state := .awaitPhased, timer := some { kind := .phased, expiry := s.now + 5000000 } }) s else s := by
  simp only [itemPlayed, phasing, enterState, startTimer, modSession, modPort_modPort]
  rfl

theorem itemPlayed_standby (standby : s.ports[p].session.state = .standby) : itemPlayed p .standby s = boundary p id s := by
  simp only [itemPlayed, standby]

/-- R138: the played TRAILER that the verdict is awaited for starts its timer; a member's is told to the pipeline. -/
theorem itemPlayed_trailer (starts : Bool) (awaits : s.ports[p].session.state = .awaitVerdict) : itemPlayed p (.trailer starts) s =
    if starts then
      if s.ports[p].session.live = .member then modPipe (reportTrailerPlayed p) (startVerdict p s) else startVerdict p s
    else s := by
  simp only [itemPlayed, awaits]

theorem itemPlayed_query (starts : Bool) (awaits : s.ports[p].session.state = .awaitVerdict) :
    itemPlayed p (.query starts) s = if starts then startVerdict p s else s := by
  simp only [itemPlayed, awaits]

theorem itemPlayed_close (closing : s.ports[p].session.state = .closing) : itemPlayed p .close s = startTimer p .receipt receiptTime s := by
  simp only [itemPlayed, closing]

theorem itemPlayed_closePart (parting : s.ports[p].session.state = .parting) : itemPlayed p .closePart s = releaseParted p s := by
  simp only [itemPlayed, parting]

/-! ### A band boundary -/

/-- R103: a preempt request stands while the head of the queue outranks the active job. -/
theorem requestStands_cons {q : Port} {j : Job} {rest : List Job} {b : ActiveJob} (queue : q.queue = j :: rest) (active : q.active = some b) :
    requestStands q = true ↔ q.preempt = true ∧ b.job.prio < j.prio := by
  simp [requestStands, queue, active]

theorem requestStands_none {q : Port} (none : q.queue = [] ∨ q.active = none) : requestStands q = false := by
  obtain queue | active := none
  · simp only [requestStands, queue, List.head?_nil]
  · cases head : q.queue.head? <;> simp only [requestStands, head, active]

theorem boundary_parts {goOn : State → State} (stands : requestStands s.ports[p] = true) :
    boundary p goOn s = part p (modPort p (fun q => { q with preempt := false }) s) := if_pos stands

theorem boundary_quiet {goOn : State → State} (quiet : requestStands s.ports[p] = false) : boundary p goOn s =
    if s.ports[p].hold then enterHeld p (modPort p (fun q => { q with preempt := false }) s)
    else goOn (modPort p (fun q => { q with preempt := false }) s) := by
  have hold : (modPort p (fun q => { q with preempt := false }) s).ports[p].hold = s.ports[p].hold := by simp
  rw [← hold]
  exact if_neg (Bool.eq_false_iff.1 quiet)

/-- R147: a session that enters HELD leaves the live set. -/
theorem enterHeld_member (member : s.ports[p].session.live = .member) : enterHeld p s = modPipe (reportDone p) (modPort p (fun q =>
    { q with
      lineTimes := []
      session := { q.session with
        state := .held, timer := none, live := .none, counts := { q.session.counts with leftLive := true } } }) s) := by
  rw [enterHeld, leaveLive_member (by simpa [enterState] using member), enterState, modSession, modPort_modPort]
  exact congrArg _ (modPort_congr (departed_member member))

theorem enterHeld_other (live : s.ports[p].session.live ≠ .member) :
    enterHeld p s = modSession p (fun x => { x with state := .held, timer := none }) s :=
  leaveLive_other (by simpa [enterState] using live)

/-- R146: a session that parts leaves the live set or its candidates, unpins its lines, and asks to hand the item that says so. -/
theorem part_eq : part p s =
    modStore (mapWays fun w => if composing s.ports[p] = some (w.pic, w.line) then w else { w with pins := w.pins.set p false })
      (modPipe (departReport p s.ports[p].session.live) (modPort p (fun q =>
        { departed q with
          wait := none
          session := { (departed q).session with
            state := .parting, timer := none, wishes := q.session.wishes ++ [.closePart]
            counts := { (departed q).session.counts with preemptions := min 255 (q.session.counts.preemptions + 1) } } }) s)) := by
  rw [part, withdrawn_eq, wish, enterState, modCounts, modSession, modSession, modSession]
  simp only [modPort_modStore, modPort_modPipe, modPort_modPort]
  rfl
end

/-- Settles O31: each item in the state that awaits it, and a boundary by the preempt request and the hold of the port. -/
theorem playedItemsAreTold : Obligations.PlayedItemsAreTold := by
  intro s p q x c session unpin verdict
  refine ⟨itemPlayed_text, itemPlayed_phasing, itemPlayed_standby, fun awaits => ⟨?trailer, ?query, ?other, ?otherQuery⟩,
    itemPlayed_close, itemPlayed_closePart, rfl,
    fun goOn => ⟨boundary_parts, fun quiet held live => ?held, fun quiet held live => ?left, fun quiet free => ?goesOn⟩,
    fun j rest b => requestStands_cons, requestStands_none, ?part⟩
  case trailer =>
    rw [itemPlayed_trailer true awaits]
    by_cases member : x.live = .member
    · simp only [member, if_true]
      exact if_pos member
    · simp only [member, if_true]
      exact if_neg member
  case query => exact itemPlayed_query true awaits
  case other => exact itemPlayed_trailer false awaits
  case otherQuery => exact itemPlayed_query false awaits
  case held =>
    rw [boundary_quiet quiet, if_pos held, enterHeld_other (by rw [Fin.getElem_fin, modPort_same]; exact live), modSession,
      modPort_modPort]
    rfl
  case left =>
    rw [boundary_quiet quiet, if_pos held, enterHeld_member (by rw [Fin.getElem_fin, modPort_same]; exact live),
      modPort_modPort]
    rfl
  case goesOn =>
    rw [boundary_quiet quiet, if_neg (Bool.eq_false_iff.1 free)]
    rfl
  case part =>
    rw [part_eq]
    rfl

end Sys2Proof.Machine
end

section
/-! PROOFS. What Job Intake reads: the slot, the captions it asks for, and their bytes (O36). -/

namespace Sys2Proof.Machine

/-! ### Bytes at successive addresses -/

theorem readBytes_append (m : Memory) (a n k : Nat) : readBytes m a n ++ readBytes m (a + n) k = readBytes m a (n + k) := by
  induction n generalizing a with
  | zero => rw [readBytes, List.nil_append, Nat.add_zero, Nat.zero_add]
  | succ n ih => rw [readBytes, List.cons_append, ← Nat.add_assoc, Nat.add_right_comm, ih, Nat.add_right_comm n 1 k, readBytes]

/-- A field of bytes read together is a read of its own. -/
theorem bytesAt_readBytes (m : Memory) (a : Nat) {i n k : Nat} (within : i + k ≤ n) :
    bytesAt (readBytes m a n) i k = readBytes m (a + i) k := by
  obtain ⟨rest, rfl⟩ := Nat.exists_eq_add_of_le within
  rw [← readBytes_append, ← readBytes_append, List.append_assoc, bytesAt, List.drop_left' (length_readBytes m a i),
    List.take_left' (length_readBytes m (a + i) k)]

/-! ### The captions of a record -/

/-- R89, R179: the kind byte of each kind. -/
def kindByte : JobKind → Nat
  | .scan => 1
  | .send => 2
  | .abortJob => 3
  | .abortPicture => 4
  | .releasePicture => 5
  | .holdPort => 6
  | .resumePort => 7

theorem kindOf_eq_some {r : List Byte} {k : JobKind} : kindOf r = some k ↔ byteAt r 8 = kindByte k := by
  cases k <;> (unfold kindOf kindByte; split <;> simp_all)

theorem recSends_scan {r : List Byte} (scan : byteAt r 8 = 1) :
    recSends r = (livePorts (recMask r)).map fun p => (p.val, liveFields r p) := by
  rw [recSends, (kindOf_eq_some (k := .scan)).2 scan]

theorem recSends_send {r : List Byte} (send : byteAt r 8 = 2) : recSends r = [(0, sendFields r)] := by
  rw [recSends, (kindOf_eq_some (k := .send)).2 send]

/-- R93: a record of another kind asks for no send job. -/
theorem recSends_other {r : List Byte} (scan : byteAt r 8 ≠ 1) (send : byteAt r 8 ≠ 2) : recSends r = [] := by
  unfold recSends
  split
  · next kind => exact absurd (kindOf_eq_some.1 kind) scan
  · next kind => exact absurd (kindOf_eq_some.1 kind) send
  · rfl

/-- R93, check 7: a caption is in order where it is empty, or short enough and within the job slots. -/
theorem captionOk_iff (base : Option Nat) (slots : Nat) (f : SendFields) : captionOk base slots f = true ↔
    f.captionLen = 0 ∨ f.captionLen ≤ 240 ∧ ∃ b, base = some b ∧ b ≤ f.captionAddr ∧ f.captionAddr + f.captionLen ≤ b + 128 * slots := by
  cases base <;> simp [captionOk]

/-- How many bytes of a caption stand before slot `i`, counted from the slot it begins in, for a JOBS window at `b`. -/
def captionBefore (b : Nat) (f : SendFields) (i : Nat) : Nat :=
  min f.captionLen (b + 128 * ((f.captionAddr - b) / 128 + i) - f.captionAddr)

theorem captionBefore_le (b : Nat) (f : SendFields) (i : Nat) : captionBefore b f i ≤ captionBefore b f (i + 1) := by
  unfold captionBefore
  omega

theorem captionBefore_first {b : Nat} {f : SendFields} (above : b ≤ f.captionAddr) : captionBefore b f 0 = 0 := by
  unfold captionBefore
  omega

/-- A caption touches at most three slots. -/
theorem captionBefore_end {b : Nat} {f : SendFields} (short : f.captionLen ≤ 240) : captionBefore b f 3 = f.captionLen := by
  unfold captionBefore
  omega

/-- R91: what a read of slot `i` brings of a caption: the bytes up to the next slot, none of a slot beyond the caption. -/
theorem captionPart_slot (m : Memory) {b which : Nat} {f : SendFields} (i : Nat) (above : b ≤ f.captionAddr) :
    ((if (f.captionAddr - b) / 128 + i ≤ (f.captionAddr + f.captionLen - 1 - b) / 128
      then some { which := which, first := f.captionAddr, len := f.captionLen,
                  slotAddr := b + 128 * ((f.captionAddr - b) / 128 + i) }
      else none).toList.flatMap fun c : CaptionRead => captionPart c (readBytes m c.slotAddr 128)) =
    readBytes m (f.captionAddr + captionBefore b f i) (captionBefore b f (i + 1) - captionBefore b f i) := by
  unfold captionBefore
  split
  · next touches =>
    simp only [Option.toList_some, List.flatMap_singleton, captionPart]
    rw [bytesAt_readBytes m _ (by omega)]
    congr 1 <;> omega
  · next beyond =>
    have empty : min f.captionLen (b + 128 * ((f.captionAddr - b) / 128 + (i + 1)) - f.captionAddr) -
        min f.captionLen (b + 128 * ((f.captionAddr - b) / 128 + i) - f.captionAddr) = 0 := by omega
    rw [empty]
    rfl

/-- R91: the reads of a caption, in order, bring its bytes. -/
theorem captionReadsOf_bytes (m : Memory) (b which : Nat) (f : SendFields) (above : b ≤ f.captionAddr) (short : f.captionLen ≤ 240) :
    ((captionReadsOf b (which, f)).flatMap fun c => captionPart c (readBytes m c.slotAddr 128)) =
      readBytes m f.captionAddr f.captionLen := by
  by_cases none : f.captionLen = 0
  · rw [captionReadsOf, if_pos none, none]
    rfl
  · have next (i : Nat) : readBytes m f.captionAddr (captionBefore b f i) ++
        readBytes m (f.captionAddr + captionBefore b f i) (captionBefore b f (i + 1) - captionBefore b f i) =
        readBytes m f.captionAddr (captionBefore b f (i + 1)) := by
      rw [readBytes_append, Nat.add_sub_cancel' (captionBefore_le b f i)]
    have first := next 0
    rw [captionBefore_first above, readBytes, List.nil_append] at first
    rw [captionReadsOf, if_neg none, List.filterMap_eq_flatMap_toList, List.flatMap_assoc]
    simp only [List.flatMap_cons, List.flatMap_nil, captionPart_slot m _ above, List.append_nil]
    rw [captionBefore_first above, first, ← List.append_assoc, next 1, next 2, captionBefore_end short]

/-! ### The reader -/

/-- R91, R163: the idle reader takes the slot at the head of the queue. -/
theorem readerTake_takes {s : State} {j : Nat} {rest : List Nat} {b : Nat} (idle : s.intake.hand = none) (queue : s.intake.queue = j :: rest)
    (base : jobsBase s = some b) : readerTake s = if s.composer.openJobs ≤ 40 then
      { s with intake := { s.intake with queue := rest, hand := some { slot := j, addr := b + 128 * j } } } else s := by
  simp only [readerTake, idle, queue, base]
  rfl

theorem readerTake_waits {s : State} (waits : s.intake.hand ≠ none ∨ s.intake.queue = [] ∨ jobsBase s = none) : readerTake s = s := by
  unfold readerTake
  split
  · next idle queue base => simp [idle, queue, base] at waits
  · rfl

/-- R93, check 7: every caption a record asks for is in order. -/
def CaptionsInOrder (s : State) (r : List Byte) : Prop := ∀ c ∈ recSends r, captionOk (jobsBase s) s.cfg.jobSlots c.2 = true

/-- R91: captions are read only where all are in order. -/
theorem plannedReads_inOrder {s : State} {r : List Byte} {b : Nat} (order : CaptionsInOrder s r) (base : jobsBase s = some b) :
    plannedReads s r = (recSends r).flatMap (captionReadsOf b) := by
  refine (if_pos (List.all_eq_true.2 order)).trans ?_
  simp only [base]

theorem plannedReads_none {s : State} {r : List Byte}
    (none : ∀ b, CaptionsInOrder s r → jobsBase s = some b → (recSends r).flatMap (captionReadsOf b) = []) : plannedReads s r = [] := by
  simp only [plannedReads]
  split
  · next order =>
    split
    · next b base => exact none b (List.all_eq_true.1 order) base
    · rfl
  · rfl

theorem handRead_captions {s : State} {h : Hand} {slot : List Byte} (reading : h.phase = .reading) (planned : plannedReads s slot ≠ []) :
    handRead s slot h = { h with record := slot, todo := plannedReads s slot, phase := .caption } := by
  simp only [handRead, reading, List.isEmpty_iff, planned, if_false]

theorem handRead_whole {s : State} {h : Hand} {slot : List Byte} (reading : h.phase = .reading) (planned : plannedReads s slot = []) :
    handRead s slot h = { h with record := slot, todo := [] } := by
  simp only [handRead, reading, planned, List.isEmpty_nil, if_true]

theorem handRead_caption {s : State} {h : Hand} {slot : List Byte} {c : CaptionRead} {rest : List CaptionRead} (caption : h.phase = .caption)
    (todo : h.todo = c :: rest) : handRead s slot h =
      { h with todo := rest, captions := h.captions.modify c.which fun bs => bs ++ captionPart c slot } := by
  simp only [handRead, caption, todo]

theorem endJobRead_eq {s : State} {addr : Nat} {h k : Hand} (unit : s.unit = some (.jobRead addr)) (hand : s.intake.hand = some h)
    (read : handRead (endUnit (.jobRead addr) s) (readBytes s.mem addr 128) h = k) (unanswered : k.phase ≠ .answering) : endJobRead s =
      if k.todo = [] then judgeJob k { s with unit := none, intake := { s.intake with hand := some k } }
      else { s with unit := none, intake := { s.intake with hand := some k } } := by
  have ends : finishRead addr s = { s with unit := none, intake := { s.intake with hand := some k } } := by
    subst read
    simp only [finishRead, endUnit, hand, Option.map_some]
    rfl
  simp only [endJobRead, unit, ends, readyHand, unanswered, List.isEmpty_iff, ne_eq, not_false_eq_true, and_true]
  split_ifs <;> rfl

/-- Settles O36: the reader, the end of a record read and of a caption read, and the bytes a caption's reads bring. -/
theorem intakeReads : Obligations.IntakeReads := by
  refine ⟨fun t s running => ⟨?takes, ?waits, fun addr h unit hand => ?ends⟩, captionReadsOf_bytes,
    fun r => ⟨recSends_scan, recSends_send, recSends_other⟩⟩
  case takes =>
    intro j rest b idle queue base
    have takes := readerTake_takes (s := advance t s) idle queue base
    exact ⟨fun room => exec_takes running rfl (takes.trans (if_pos room)),
      fun full => exec_ignored rfl (takes.trans (if_neg (not_le.2 full)))⟩
  case waits => exact fun waits => exec_ignored rfl (readerTake_waits (s := advance t s) waits)
  case ends =>
    intro slot ok
    have order : CaptionsInOrder (endUnit (.jobRead addr) (advance t s)) slot ↔ ok :=
      forall₂_congr fun c _ => captionOk_iff _ _ c.2
    have goesOn {k : Hand} (read : handRead (endUnit (.jobRead addr) (advance t s)) slot h = k) (unanswered : k.phase ≠ .answering) :=
      endJobRead_eq (s := advance t s) unit hand read unanswered
    refine ⟨fun b reading isOk base asks => ?captions, fun reading none => ?whole, fun c rest caption todo => ?part⟩
    case captions =>
      have planned := plannedReads_inOrder (order.2 isOk) base
      have read := handRead_captions reading (planned ▸ asks)
      rw [planned] at read
      exact exec_takes running rfl ((goesOn read (by simp)).trans (if_neg asks))
    case whole =>
      have read := handRead_whole reading (plannedReads_none fun b inOrder => none b (order.1 inOrder))
      exact exec_takes running rfl ((goesOn read (by simp [reading])).trans (if_pos rfl))
    case part =>
      have kept := goesOn (handRead_caption caption todo) (by simp [caption])
      exact ⟨fun more => exec_takes running rfl (kept.trans (if_neg more)),
        fun last => exec_takes running rfl (kept.trans (if_pos last))⟩

end Sys2Proof.Machine
end

section
/-! PROOFS. The checks of a job, in their order, and its answer (O37). -/

namespace Sys2Proof.Machine

/-! ### What each check looks at -/

section
variable {r : List Byte}

theorem isKind_iff_byte {k : JobKind} : isKind r k = true ↔ byteAt r 8 = kindByte k := isKind_iff.trans kindOf_eq_some

/-- R93, check 2. -/
theorem kindOf_eq_none : kindOf r = none ↔ byteAt r 8 < 1 ∨ 7 < byteAt r 8 := by
  unfold kindOf
  split <;> simp_all
  omega

/-- R93, check 3. -/
theorem badPicture_iff : badPicture r = true ↔ byteAt r 8 ∈ [1, 2, 4, 5] ∧ 15 < byteAt r 12 := by
  unfold badPicture recPicture
  cases kind : kindOf r with
  | none =>
    have other := kindOf_eq_none.1 kind
    simp
    omega
  | some k =>
    rw [kindOf_eq_some.1 kind]
    cases k <;> simp [kindByte]

/-- R93, check 4. -/
theorem badPort_iff : badPort r = true ↔ (byteAt r 8 = 2 ∧ 3 < byteAt r 13) ∨ (byteAt r 8 ∈ [6, 7] ∧ 3 < byteAt r 12) ∨
    (byteAt r 8 = 1 ∧ 15 < byteAt r 14) := by
  unfold badPort recSendPort recPort recMask
  cases kind : kindOf r with
  | none =>
    have other := kindOf_eq_none.1 kind
    simp
    omega
  | some k =>
    rw [kindOf_eq_some.1 kind]
    cases k <;> simp [kindByte]

/-- The port of a number, where there is one. -/
theorem portOf_eq (n : Nat) : (if n < 4 then [Fin.ofNat 4 n] else []) = (List.finRange 4).filter fun p => decide (p.val = n) := by
  split
  · next small =>
    interval_cases n <;> rfl
  · next great => exact (List.filter_eq_nil_iff.2 fun p _ => by simp; omega).symm

/-- R93: the ports a record names that exist. -/
theorem namedPorts_eq : namedPorts r =
    if byteAt r 8 = 1 then livePorts (recMask r)
    else if byteAt r 8 = 2 then (List.finRange 4).filter fun p => decide (p.val = byteAt r 13)
    else if byteAt r 8 = 6 ∨ byteAt r 8 = 7 then (List.finRange 4).filter fun p => decide (p.val = byteAt r 12) else [] := by
  unfold namedPorts recSendPort recPort
  rw [portOf_eq, portOf_eq]
  cases kind : kindOf r with
  | none =>
    have other := kindOf_eq_none.1 kind
    rw [if_neg (by omega), if_neg (by omega), if_neg (by omega)]
  | some k =>
    rw [kindOf_eq_some.1 kind]
    cases k <;> simp [kindByte]
end

/-- R93, check 7, failing. -/
theorem captionOk_eq_false {base : Option Nat} {slots : Nat} {f : SendFields} : captionOk base slots f = false ↔
    f.captionLen ≠ 0 ∧ (240 < f.captionLen ∨
      ¬(base.any fun b => b ≤ f.captionAddr && f.captionAddr + f.captionLen ≤ b + 128 * slots) = true) := by
  by_cases short : f.captionLen ≤ 240
  · cases base <;> simp [captionOk, short, not_lt.2 short]
  · simp [captionOk, short, not_le.1 short]

theorem validRpm_eq_false {n : Nat} : validRpm n = false ↔ n ∉ [60, 90, 120] := by
  simp [validRpm, and_assoc]

/-- R93, check 10, failing. -/
theorem badLines_iff {s : State} {r : List Byte} : badLines s r = true ↔
    recLines r < 32 ∨ 4096 < recLines r ∨ s.cfg.slots[recSlot r].size < recLines r * strideOf (recIoc r) := by
  simp [badLines, or_assoc]

/-- R93, check 13, failing. -/
theorem livePortBusy_iff {q : Port} : livePortBusy q = true ↔ q.session.state ≠ .idle ∨ q.hold = true ∨ q.contexts ≠ [] := by
  simp [livePortBusy, or_assoc]

theorem mem_allPorts (p : PortNo) : p ∈ allPorts := by
  fin_cases p <;> simp [allPorts]

/-- R93, check 17, failing: no job of the port that an abort still finds has the id. -/
theorem findsJob_eq_false {n : Nat} {q : Port} : findsJob (.id n) q = false ↔
    (q.queue.any fun j => j.id = n) = false ∧
      (q.active.any fun b => b.job.id = n && (!b.begun || q.session.outcome = none)) = false ∧
      (q.contexts.any fun c => c.job.id = n) = false := by
  have active : (findActive (.id n) q).isSome = q.active.any fun b => b.job.id = n && (!b.begun || q.session.outcome = none) := by
    cases active : q.active with
    | none => simp [findActive, active]
    | some b =>
      rw [findActive_eq active]
      split_ifs with found <;> simp_all [aims]
  rw [findsJob, active, Bool.or_eq_false_iff, Bool.or_eq_false_iff, and_assoc]
  rfl

/-- Settles O37: the chain of checks, each read as R93 states it, and the answer. -/
theorem refusalsInOrder : Obligations.RefusalsInOrder := by
  refine ⟨fun s r => ?checks, fun s h => ⟨fun code => judgeJob_refused, fun result base => if_pos base, fun result none => ?dropped⟩⟩
  case checks =>
    intro kind scan send named pic size
    have isScan : isKind r .scan = true ↔ scan := isKind_iff_byte
    have isSend : isKind r .send = true ↔ send := isKind_iff_byte
    have isNamed : namedPorts r = named := namedPorts_eq
    simp only [refusalOf, jobChecks, find?_cons_ite, List.find?_nil, apply_ite (Option.map _), Option.map_some, Option.map_none]
    refine if_congr ?c1 rfl <| if_congr ?c2 rfl <| if_congr badPicture_iff rfl <| if_congr badPort_iff rfl <| if_congr ?c5 rfl <|
      if_congr ?c6 rfl <| if_congr ?c7 rfl <| if_congr ?c8 rfl <| if_congr ?c9 rfl <| if_congr ?c10 rfl <| if_congr ?c11 rfl <|
      if_congr ?c12 rfl <| if_congr ?c13 rfl <| if_congr ?c14 rfl <| if_congr ?c15 rfl <| if_congr ?c16 rfl <| if_congr ?c17 rfl rfl
    case c1 => simp
    case c2 => rw [Option.isNone_iff_eq_none, kindOf_eq_none]
    case c5 => simp only [List.any_eq_true, isNamed, Bool.not_eq_true', settings]
    case c6 => simp only [List.any_eq_true, Bool.or_eq_true, decide_eq_true_eq, Nat.lt_one_iff]
    case c7 => simp only [Bool.not_eq_true', List.all_eq_false, Bool.not_eq_true, captionOk_eq_false]
    case c8 => simp only [Bool.and_eq_true, Bool.or_eq_true, decide_eq_true_eq, isScan]; rfl
    case c9 => simp only [Bool.and_eq_true, Bool.not_eq_true', isScan, validRpm_eq_false]; rfl
    case c10 => simp only [Bool.and_eq_true, isScan, badLines_iff]; rfl
    case c11 => simp [isScan, isSend, pic]
    case c12 => simp [isScan, scanningPicture]
    case c13 =>
      simp only [Bool.and_eq_true, List.any_eq_true, isScan, livePortBusy_iff]
      exact and_congr_right fun scans => by rw [show named = livePorts (recMask r) from if_pos scans]
    case c14 => simp only [Bool.and_eq_true, isScan]
    case c15 => simp only [Bool.and_eq_true, List.any_eq_true, decide_eq_true_eq, isSend, isNamed]; rfl
    case c16 => simp [isKind_iff_byte, kindByte, kind, pic]
    case c17 =>
      simp only [Bool.and_eq_true, List.all_eq_true, isKind_iff_byte, Bool.not_eq_true', findsJob_eq_false, mem_allPorts, true_implies]
      rfl
  case dropped =>
    rw [answer, none]
    rfl

end Sys2Proof.Machine
end

section
/-! PROOFS. The end of a setup part read, and how each part of the block is taken in (O43). -/

namespace Sys2Proof.Machine

/-! ### Fields of a record -/

/-- A field is its first byte and, 256-fold, the rest. -/
theorem fieldAt_succ (r : List Byte) (i n : Nat) : fieldAt r i (n + 1) = byteAt r i + 256 * fieldAt r (i + 1) n := by
  simp only [fieldAt, bytesAt, byteAt, List.getD_eq_getElem?_getD, ← List.head?_drop, ← List.tail_drop]
  cases r.drop i with
  | nil => simp
  | cons b rest => simp [leNat_cons]

theorem fieldAt_zero (r : List Byte) (i : Nat) : fieldAt r i 0 = 0 := by
  simp [fieldAt, bytesAt]

theorem fieldAt_two (r : List Byte) (i : Nat) : fieldAt r i 2 = byteAt r i + 256 * byteAt r (i + 1) := by
  rw [fieldAt_succ, fieldAt_succ, fieldAt_zero]
  omega

theorem fieldAt_four (r : List Byte) (i : Nat) : fieldAt r i 4 =
    byteAt r i + 256 * byteAt r (i + 1) + 65536 * byteAt r (i + 2) + 16777216 * byteAt r (i + 3) := by
  rw [fieldAt_succ, fieldAt_succ, fieldAt_two, Nat.add_assoc i 1 1, Nat.add_assoc i 2 1]
  omega

/-! ### A value taken in (R168) -/

theorem limit_adjusts {lo hi : Nat} (x : Nat) (range : lo ≤ hi) : (limit lo hi x).2 = (decide (x < lo) || decide (hi < x)) := by
  rw [Bool.eq_iff_iff]
  simp only [limit, clamp, bne_iff_ne, Bool.or_eq_true, decide_eq_true_eq]
  omega

theorem limit_zero (hi x : Nat) : limit 0 hi x = (min x hi, decide (hi < x)) := by
  rw [← Prod.eta (limit 0 hi x), limit_adjusts x (Nat.zero_le hi)]
  simp [limit, clamp]

theorem limitBand_adjusts (x : Nat) : (limitBand x).2 = decide (x ∉ [16, 32, 64]) := by
  rw [Bool.eq_iff_iff]
  simp only [limitBand, bne_iff_ne, decide_eq_true_eq, List.mem_cons, List.not_mem_nil, or_false]
  split_ifs <;> omega

theorem limitKind_eq (x : Nat) : limitKind x =
    ((match x with | 1 => .picture | 2 => .jobs | 3 => .slips | 4 => .status | _ => .off), decide (4 < x)) := by
  unfold limitKind
  split <;> simp_all
  omega

/-! ### A part taken in (R168, R182) -/

theorem takePart_windows (l : Loader) (r : List Byte) : takePart l 2 r = { l with
    block := { l.block with windows := Vector.ofFn fun e : Fin 8 => {
      kind := match byteAt r (12 * e.val) with | 1 => .picture | 2 => .jobs | 3 => .slips | 4 => .status | _ => .off
      base := fieldAt r (12 * e.val + 4) 4 % 2 ^ 26, size := fieldAt r (12 * e.val + 8) 4 } }
    adjusted := l.adjusted || decide (∃ e : Fin 8, 4 < byteAt r (12 * e.val)) } := by
  have adjusts : ((List.range 8).any fun e => (readWindow r e).2) = decide (∃ e : Fin 8, 4 < byteAt r (12 * e.val)) := by
    rw [Bool.eq_iff_iff]
    simp only [List.any_eq_true, List.mem_range, readWindow, limitKind_eq, decide_eq_true_eq, Fin.exists_iff, exists_prop]
  rw [← adjusts]
  simp only [takePart, readWindow, limitKind_eq, addr26]

theorem readDrum_eq (r : List Byte) : readDrum r = (
    { dBase60 := min (fieldAt r 0 2) 1023, dBase90 := min (fieldAt r 2 2) 1023, dBase120 := min (fieldAt r 4 2) 1023
      kp := byteAt r 6, ki := byteAt r 7, lockPpm := (limit 20 500 (fieldAt r 8 2)).1, idleSpin := min (fieldAt r 10 2) 600
      spanFloor := (limit 64 2048 (fieldAt r 12 2)).1, settleTenths := (limit 5 80 (byteAt r 14)).1
      holdLimit := (limit 1 8 (byteAt r 15)).1, curve := (List.range 17).map fun i => byteAt r (16 + i) },
    decide (1023 < fieldAt r 0 2 ∨ 1023 < fieldAt r 2 2 ∨ 1023 < fieldAt r 4 2 ∨ (limit 20 500 (fieldAt r 8 2)).2 = true ∨
      600 < fieldAt r 10 2 ∨ (limit 64 2048 (fieldAt r 12 2)).2 = true ∨ (limit 5 80 (byteAt r 14)).2 = true ∨
      (limit 1 8 (byteAt r 15)).2 = true)) := by
  simp only [readDrum, limit_zero, Bool.decide_or, Bool.or_assoc, Bool.decide_eq_true]

theorem takePart_port (l : Loader) (p : PortNo) (r : List Byte) : takePart l (5 + p.val) r = { l with
    block := { l.block with ports := l.block.ports.set p (readPort r).1 }, adjusted := l.adjusted || (readPort r).2 } := by
  rw [Nat.add_comm]
  exact dif_pos p.isLt

/-- R168: AM decides the range of the white and black codes. -/
def toneOf (am : Bool) (x : Nat) : Nat := if am then min x 1023 else max 1000 (min x 3000)

theorem limitTone_eq (am : Bool) (x : Nat) : (if am then limit 0 1023 else limit 1000 3000) x = (toneOf am x, decide (toneOf am x ≠ x)) := by
  cases am with
  | true => simp [toneOf, limit_zero]
  | false => simp [toneOf, limit, clamp, bne, Bool.beq_eq_decide_eq]

theorem readPort_eq (r : List Byte) : readPort r = (
    { enabled := decide (1 ≤ byteAt r 0), am := decide (1 ≤ byteAt r 1)
      white := toneOf (decide (1 ≤ byteAt r 1)) (fieldAt r 2 2), black := toneOf (decide (1 ≤ byteAt r 1)) (fieldAt r 4 2)
      bandLength := (limitBand (byteAt r 6)).1, phasingLines := (limit 10 60 (byteAt r 7)).1
      verdictTime := (limit 1 10 (byteAt r 8)).1, waitTime := (limit 5 120 (byteAt r 9)).1
      minDuration := (limit 10 200 (byteAt r 10)).1, crc := decide (1 ≤ byteAt r 11), sync := min (byteAt r 12) 15
      pad := min (byteAt r 13) 15, preempt := decide (1 ≤ byteAt r 14) },
    decide (1 < byteAt r 0 ∨ 1 < byteAt r 1 ∨ toneOf (decide (1 ≤ byteAt r 1)) (fieldAt r 2 2) ≠ fieldAt r 2 2 ∨
      toneOf (decide (1 ≤ byteAt r 1)) (fieldAt r 4 2) ≠ fieldAt r 4 2 ∨ byteAt r 6 ∉ [16, 32, 64] ∨
      (limit 10 60 (byteAt r 7)).2 = true ∨ (limit 1 10 (byteAt r 8)).2 = true ∨ (limit 5 120 (byteAt r 9)).2 = true ∨
      (limit 10 200 (byteAt r 10)).2 = true ∨ 1 < byteAt r 11 ∨ 15 < byteAt r 12 ∨ 15 < byteAt r 13 ∨ 1 < byteAt r 14)) := by
  unfold readPort
  dsimp only
  rw [limitTone_eq, limitTone_eq]
  simp only [limitBit, limitBand_adjusts, limit_zero, Bool.decide_or, Bool.or_assoc, Bool.decide_eq_true]
  rfl

/-! ### Adoption (R170) -/

theorem adoptQueue_eq (c : Setup) (q : List Nat) : adoptQueue c q =
    if (windowOf c.windows .jobs).map (·.base) = none then [] else q.filter fun j => decide (j < c.jobSlots) := by
  cases jobs : windowOf c.windows .jobs <;> simp [adoptQueue, jobs]

/-- R165: the ring of a newly adopted setup lies elsewhere or has another capacity. -/
abbrev RingMoves (old new : Setup) : Prop :=
  (windowOf new.windows .slips).map (·.base) ≠ (windowOf old.windows .slips).map (·.base) ∨ new.ringCapacity ≠ old.ringCapacity

theorem ringDiffers_iff (old new : Setup) : ringDiffers old new = true ↔ RingMoves old new := by
  rw [ringDiffers, Bool.or_eq_true, bne_iff_ne, bne_iff_ne]
  exact or_congr ne_comm ne_comm

/-- R164, R165: a new first serial is taken while none has been, and a ring that moves starts anew. -/
theorem adoptComposer_eq (old new : Setup) (serial : Nat) (c : Composer) : adoptComposer old new serial c = { c with
    nextSerial := if c.nextSerial = some 0 then some serial else c.nextSerial
    index := if RingMoves old new then 0 else c.index
    filled := if RingMoves old new then List.replicate new.ringCapacity false else c.filled } := by
  unfold adoptComposer
  by_cases moves : RingMoves old new
  · simp only [(ringDiffers_iff old new).2 moves, if_pos moves, if_true]
  · simp only [mt (ringDiffers_iff old new).1 moves, if_neg moves, Bool.false_eq_true, if_false]

theorem adoptStatus_eq (old new : Setup) (w : StatusWriter) : adoptStatus old new w = { w with
    changed := if windowOf new.windows .status ≠ none ∧ windowOf new.windows .status ≠ windowOf old.windows .status
      then Vector.replicate 27 true else w.changed } := by
  simp only [adoptStatus, Option.isSome_iff_ne_none]
  split <;> rfl

theorem adopt_eq (l : Loader) (s : State) : adopt l s = judgeWriter { s with
    cfg := l.block, adopted := true, notice := { s.notice with enables := l.enables }
    clock := { seconds := l.clock, micros := 0 }
    intake := { s.intake with queue :=
      if (windowOf l.block.windows .jobs).map (·.base) = none then [] else s.intake.queue.filter fun j => decide (j < l.block.jobSlots) }
    composer := { s.composer with
      nextSerial := if s.composer.nextSerial = some 0 then some l.serial else s.composer.nextSerial
      index := if RingMoves s.cfg l.block then 0 else s.composer.index
      filled := if RingMoves s.cfg l.block then List.replicate l.block.ringCapacity false else s.composer.filled }
    status := { s.status with
      changed := if windowOf l.block.windows .status ≠ none ∧ windowOf l.block.windows .status ≠ windowOf s.cfg.windows .status
        then Vector.replicate 27 true else s.status.changed } } := by
  rw [adopt, adoptQueue_eq, adoptComposer_eq, adoptStatus_eq]

/-! ### The end of a part read (R167) -/

section
variable {part : Nat} {l : Loader} {s : State}

theorem afterPart_refused {word : List Byte} (fails : partChecks s l.block part = some word) :
    afterPart part l s = { s with loader := { l with phase := .answering word } } := by
  simp only [afterPart, fails]

theorem afterPart_reads (passes : partChecks s l.block part = none) (more : part < 8) :
    afterPart part l s = { s with loader := { l with phase := .reading (part + 1) } } := by
  simp only [afterPart, passes, more, if_true]

theorem afterPart_refusedLast {word : List Byte} (passes : partChecks s l.block part = none) (last : ¬part < 8)
    (fails : adoptionCheck s l.block = some word) : afterPart part l s = { s with loader := { l with phase := .answering word } } := by
  simp only [afterPart, passes, last, fails, if_false]

theorem afterPart_adopts (passes : partChecks s l.block part = none) (last : ¬part < 8) (adoptable : adoptionCheck s l.block = none) :
    afterPart part l s = { adopt l s with loader := { l with phase := .answering (loadWord 1 l.adjusted 0) } } := by
  simp only [afterPart, passes, last, adoptable, if_false]
end

theorem endSetupPart_eq {s : State} {part : Nat} (unit : s.unit = some (.setupPart part)) : endSetupPart s =
    afterPart part (takePart s.loader part (readBytes s.mem (setupBase s.strap + (partSpan part).1) (partSpan part).2))
      (endUnit (.setupPart part) s) := by
  simp only [endSetupPart, unit]

/-- Settles O43: the checks after a part, the next part, and the adoption; and each part field by field. -/
theorem setupLoads : Obligations.SetupLoads := by
  refine ⟨fun t s part running unit _ _ => ?ends, by decide, fun r i => ⟨fieldAt_two r i, fieldAt_four r i⟩, fun l r => ?taken⟩
  case ends =>
    intro a span l c on answers old base ringMoves
    have ended {y : State} (after : afterPart part l (endUnit (.setupPart part) a) = y) : answers y :=
      exec_takes running rfl ((endSetupPart_eq (s := a) unit).trans after)
    refine ⟨fun word fails => ended (afterPart_refused fails), fun passes more => ended (afterPart_reads passes more),
      fun word passes last fails => ended (afterPart_refusedLast passes (by omega) fails), fun passes last adoptable => ?adopts⟩
    refine ended ((afterPart_adopts (s := endUnit (.setupPart part) a) passes (by omega) adoptable).trans ?_)
    rw [adopt_eq]
    rfl
  case taken =>
    intro near out
    refine ⟨?general, takePart_windows l r, rfl, ?drum, fun p => ?port⟩
    case general =>
      simp only [near, out, ← limit_adjusts _ (show 8 ≤ 128 by decide), ← limit_adjusts _ (show 8 ≤ 256 by decide)]
      rfl
    case drum =>
      simp only [near, out, ← limit_adjusts _ (show 20 ≤ 500 by decide), ← limit_adjusts _ (show 64 ≤ 2048 by decide),
        ← limit_adjusts _ (show 5 ≤ 80 by decide), ← limit_adjusts _ (show 1 ≤ 8 by decide)]
      rw [takePart, readDrum_eq]
      rfl
    case port =>
      intro am tone band
      have toned (x : Nat) : tone x = toneOf (decide am) x := by
        simp only [tone, toneOf, decide_eq_true_eq]
        rfl
      simp only [near, out, toned, ← limit_adjusts _ (show 10 ≤ 60 by decide), ← limit_adjusts _ (show 1 ≤ 10 by decide),
        ← limit_adjusts _ (show 5 ≤ 120 by decide), ← limit_adjusts _ (show 10 ≤ 200 by decide)]
      rw [takePart_port, readPort_eq]
      rfl

end Sys2Proof.Machine
end

section
/-! PROOFS. The tone codes of a line (O51). -/

namespace Sys2Proof.Machine

/-- R119: an even division of a span, rounded to the nearest, stays within the span. -/
theorem interpolated_within {d v : Int} (first : 0 ≤ v) (last : v ≤ 255) :
    min 0 d ≤ (d * v + 127) / 255 ∧ (d * v + 127) / 255 ≤ max 0 d := by
  rcases le_total 0 d with up | down
  · have most : d * v ≤ d * 255 := Int.mul_le_mul_of_nonneg_left last up
    have least : 0 ≤ d * v := Int.mul_nonneg up first
    omega
  · have most : d * v ≤ 0 := Int.mul_nonpos_of_nonpos_of_nonneg down first
    have least : d * 255 ≤ d * v := Int.mul_le_mul_of_nonpos_left down last
    omega

/-- R119: the tone code before it is taken as a natural number. -/
theorem toneCode_eq (white black : Nat) {v : Nat} (byte : v ≤ 255) :
    (toneCode white black v : Int) = white + (((black : Int) - white) * v + 127) / 255 := by
  have within := (interpolated_within (d := (black : Int) - white) (v := v) (by omega) (by omega)).1
  exact Int.toNat_of_nonneg (by omega)

theorem toneCode_between (white black : Nat) {v : Nat} (byte : v ≤ 255) :
    min white black ≤ toneCode white black v ∧ toneCode white black v ≤ max white black := by
  have code := toneCode_eq white black byte
  have within := interpolated_within (d := (black : Int) - white) (v := v) (by omega) (by omega)
  omega

theorem toneCode_white (white black : Nat) : toneCode white black 0 = white := by
  simp [toneCode]

theorem toneCode_black (white black : Nat) : toneCode white black 255 = black := by
  simp only [toneCode]
  omega

/-- Settles O51: the code of a byte lies on the span from white to black, and the lines are the model's own. -/
theorem toneCodesAreInterpolated : Obligations.ToneCodesAreInterpolated := by
  intro c v line P w k d code
  have byte : v.toNat ≤ 255 := Nat.le_of_lt_succ v.isLt
  obtain ⟨least, most⟩ := toneCode_between w k byte
  refine ⟨toneCode_eq w k byte, least, most, fun isWhite => ?white, fun isBlack => ?black, rfl, rfl, rfl⟩
  case white =>
    subst isWhite
    exact toneCode_white w k
  case black =>
    subst isBlack
    exact toneCode_black w k

end Sys2Proof.Machine
end

section
/-! PROOFS. READY and PHASED (O33). -/

namespace Sys2Proof.Machine

/-! ### READY -/

/-- R132: the session has been told of the far end. -/
def toldFarEnd (rpm ioc : Nat) (capable : Bool) (x : Session) : Session :=
  { x with timer := none, farRpm := some rpm, farIoc := some ioc, capable := capable }

/-- R132, R150: a candidate is withdrawn where the far end's drum speed is not the scan's. -/
def withdrawUnsuited (p : PortNo) (rpm scanRpm : Nat) (s : State) : State := if rpm ≠ scanRpm then withdrawLive p true s else s

theorem withdrawUnsuited_eq (p : PortNo) (rpm scanRpm : Nat) (s : State) : withdrawUnsuited p rpm scanRpm s =
    modPipe (fun q => if rpm ≠ scanRpm ∧ s.ports[p].session.live = .candidate then reportWithdrawn p q else q) (modSession p (fun x =>
      { x with live := if rpm ≠ scanRpm ∧ s.ports[p].session.live = .candidate then .none else x.live }) s) := by
  by_cases unfit : rpm ≠ scanRpm ∧ s.ports[p].session.live = .candidate
  · simp only [if_pos unfit]
    exact (if_pos unfit.1).trans (withdrawLive_candidate unfit.2)
  · have stays : withdrawUnsuited p rpm scanRpm s = s := by
      by_cases differs : rpm ≠ scanRpm
      · exact (if_pos differs).trans (withdrawLive_other fun candidate => unfit ⟨differs, candidate⟩)
      · exact if_neg differs
    simp only [if_neg unfit, stays]
    exact (modPort_unchanged (p := p) (f := fun q => q) rfl).symm

/-- R132: the state once a READY that suits the picture of job `j` has been taken in. -/
def afterReady (p : PortNo) (rpm ioc : Nat) (capable : Bool) (j : Job) (s : State) : State :=
  withdrawUnsuited p rpm s.pics[j.pic].rpm (modSession p (toldFarEnd rpm ioc capable) s)

theorem afterReady_resumed (p : PortNo) (rpm ioc : Nat) (capable : Bool) (j : Job) (s : State) :
    (afterReady p rpm ioc capable j s).ports[p].session.resumed = s.ports[p].session.resumed := by
  simp [afterReady, withdrawUnsuited_eq, toldFarEnd]

section
variable {p : PortNo} {s : State} {j : Job} {rpm ioc : Nat} {capable : Bool} (job : s.ports[p].session.job = some j)
include job

theorem takeReady_mismatch (differs : ioc ≠ s.pics[j.pic].ioc) : takeReady p rpm ioc capable s =
    endSession p .mismatchIoc 0 (modSession p (toldFarEnd rpm ioc capable) s) := by
  simp only [takeReady, job]
  exact if_pos differs

theorem takeReady_fits (fits : ioc = s.pics[j.pic].ioc) : takeReady p rpm ioc capable s =
    if s.ports[p].session.resumed = false ∧ 1 ≤ j.caption.length ∧ capable = true then
      enterState p .caption (afterReady p rpm ioc capable j s)
    else enterPhasing p 1 (afterReady p rpm ioc capable j s) := by
  rw [← afterReady_resumed p rpm ioc capable j s]
  simp only [takeReady, job]
  exact if_neg (not_not.2 fits)

theorem takeReady_caption (fits : ioc = s.pics[j.pic].ioc) (fresh : s.ports[p].session.resumed = false) (caption : j.caption ≠ [])
    (able : capable = true) : takeReady p rpm ioc capable s =
      enterState p .caption (afterReady p rpm ioc capable j s) :=
  (takeReady_fits job fits).trans (if_pos ⟨fresh, List.length_pos_iff.2 caption, able⟩)

theorem takeReady_phasing (fits : ioc = s.pics[j.pic].ioc)
    (plain : s.ports[p].session.resumed = true ∨ j.caption = [] ∨ capable = false) : takeReady p rpm ioc capable s =
      enterPhasing p 1 (afterReady p rpm ioc capable j s) := by
  refine (takeReady_fits job fits).trans (if_neg fun ⟨fresh, caption, able⟩ => ?_)
  rcases plain with resumed | empty | unable
  · exact Bool.false_ne_true (fresh.symm.trans resumed)
  · exact List.length_pos_iff.1 caption empty
  · exact Bool.false_ne_true (unable.symm.trans able)
end

theorem takeSignal_ready {p : PortNo} {s : State} (calling : s.ports[p].session.state = .calling) (rpm ioc : Nat) (capable : Bool) :
    takeSignal p (.ready rpm ioc capable) s = takeReady p rpm ioc capable s := if_pos calling

/-! ### PHASED -/

section
variable {p : PortNo} {s : State}

theorem takeSignal_phased (awaited : s.ports[p].session.state = .phasing ∨ s.ports[p].session.state = .awaitPhased) :
    takeSignal p .phased s = reachPhasing p s := if_pos awaited

theorem reachPhasing_candidate (candidate : s.ports[p].session.live = .candidate) :
    reachPhasing p s = modPipe (reportPhased p) (enterState p .standby s) := if_pos candidate

theorem reachPhasing_held (live : s.ports[p].session.live ≠ .candidate) (held : s.ports[p].hold = true) :
    reachPhasing p s = enterHeld p s := (if_neg live).trans (if_pos held)

theorem reachPhasing_starts (live : s.ports[p].session.live ≠ .candidate) (free : s.ports[p].hold = false) :
    reachPhasing p s = bandStart p s := (if_neg live).trans (if_neg (Bool.eq_false_iff.1 free))
end

/-- Settles O33: READY by what it declares and what the job carries, PHASED by the live status and the hold of the port. -/
theorem sessionsTakeReadyAndPhased : Obligations.SessionsTakeReadyAndPhased := by
  intro s p j job q x r session
  refine ⟨fun rpm ioc capable calling => ?ready, fun awaited => ?phased⟩
  case ready =>
    intro isTold unfit y st
    rw [takeSignal_ready calling]
    refine ⟨fun differs => takeReady_mismatch job differs, fun fits fresh caption able => ?caption, fun fits plain => ?phasing⟩
    case caption =>
      rw [takeReady_caption job fits fresh caption able, afterReady, withdrawUnsuited_eq]
      simp only [enterState, modSession, modPort_modPipe, modPort_modPort, Fin.getElem_fin, modPort_same]
      rfl
    case phasing =>
      rw [takeReady_phasing job fits plain, afterReady, withdrawUnsuited_eq]
      simp only [enterPhasing, enterState, modSession, modPort_modPipe, modPort_modPort, Fin.getElem_fin, modPort_same]
      rfl
  case phased =>
    rw [takeSignal_phased awaited]
    refine ⟨fun candidate => ?reports, fun apart held => ?held, reachPhasing_starts⟩
    case reports =>
      rw [reachPhasing_candidate candidate]
      rfl
    case held =>
      have notCandidate : s.ports[p].session.live ≠ .candidate := by rw [apart]; decide
      have notMember : s.ports[p].session.live ≠ .member := by rw [apart]; decide
      exact (reachPhasing_held notCandidate held).trans (enterHeld_other notMember)

end Sys2Proof.Machine
end

section
/-! PROOFS. What the reports of a coupler do by the state of the link (O30). -/

namespace Sys2Proof.Machine

section
variable {p : PortNo} {s : State}

theorem linkIs_iff (st : LinkState) : linkIs s p st = true ↔ s.ports[p].link.state = st := decide_eq_true_iff

/-! ### UP and FAIL -/

theorem takeUp_dialling (dialling : s.ports[p].link.state = .dialling) : takeUp p s = service p (modPort p (fun q =>
    { q with
      session := { q.session with
        state := .calling, timer := some { kind := .ready, expiry := s.now + 30000000 }, wishes := q.session.wishes ++ [.call] }
      link := sendFrame (.mode s.cfg.ports[p].am s.cfg.ports[p].white s.cfg.ports[p].black) { q.link with state := .connected } }) s) := by
  refine (if_pos ((linkIs_iff _).2 dialling)).trans ?_
  simp only [startTimer, wish, enterState, modSession, modLink, modPort_modPort]
  rfl

theorem takeUp_other (other : s.ports[p].link.state ≠ .dialling) : takeUp p s = s := if_neg (mt (linkIs_iff _).1 other)

theorem takeFail_dialling (dialling : s.ports[p].link.state = .dialling) (cause : FailCause) : takeFail p cause s =
    endSession p .lineFailed (failCode cause) (modLink p (fun l => { l with state := .onHook }) s) :=
  if_pos ((linkIs_iff _).2 dialling)

theorem takeFail_other (other : s.ports[p].link.state ≠ .dialling) (cause : FailCause) : takeFail p cause s = s :=
  if_neg (mt (linkIs_iff _).1 other)

/-! ### DONE -/

/-- R113: DONE ITEM is of the oldest item on the list. -/
theorem takeDoneItem_takes {i : Item} {rest : List Item} (connected : s.ports[p].link.state = .connected)
    (calm : s.ports[p].link.flushing = false) (outstanding : s.ports[p].link.outstanding = i :: rest) :
    takeDoneItem p s = service p (itemPlayed p i (modLink p (fun l => { l with outstanding := rest }) s)) := by
  have taken : takeDone s.ports[p].link = some (i, { s.ports[p].link with outstanding := rest }) := by
    simp only [takeDone, connected, calm, outstanding, and_self, if_true]
  simp only [takeDoneItem, taken]
  rfl

theorem takeDoneItem_discarded (discards : s.ports[p].link.state ≠ .connected ∨ s.ports[p].link.flushing = true ∨
    s.ports[p].link.outstanding = []) : takeDoneItem p s = s := by
  have none : takeDone s.ports[p].link = none := by
    rcases discards with away | flushing | empty
    · exact if_neg fun h => away h.1
    · exact if_neg fun h => Bool.false_ne_true (h.2.symm.trans flushing)
    · simp only [takeDone, empty, ite_self]
  simp only [takeDoneItem, none]

theorem takeDoneFlush_takes (connected : s.ports[p].link.state = .connected) (flushing : s.ports[p].link.flushing = true) :
    takeDoneFlush p s = service p (modLink p (fun l => { l with flushing := false }) s) :=
  if_pos ⟨(linkIs_iff _).2 connected, flushing⟩

theorem takeDoneFlush_discarded (discards : s.ports[p].link.state ≠ .connected ∨ s.ports[p].link.flushing = false) :
    takeDoneFlush p s = s := by
  refine if_neg fun ⟨connected, flushing⟩ => ?_
  rcases discards with away | calm
  · exact away ((linkIs_iff _).1 connected)
  · exact Bool.false_ne_true (calm.symm.trans flushing)

/-! ### SLACK and HEARD -/

theorem takeSlack_connected (connected : s.ports[p].link.state = .connected) : takeSlack p s =
    modCounts p (fun c => { c with slack := bump max16 c.slack }) s := if_pos ((linkIs_iff _).2 connected)

theorem takeSlack_other (other : s.ports[p].link.state ≠ .connected) : takeSlack p s = s := if_neg (mt (linkIs_iff _).1 other)

section
variable {code : Byte} {duration : Nat} {data : List Byte}

/-- R124: a report too short, or that spells no signal, is noise. -/
theorem takeHeard_noise (connected : s.ports[p].link.state = .connected)
    (noise : duration < s.cfg.ports[p].minDuration ∨ signalOf code data = none) : takeHeard p code duration data s = countNoise p s := by
  refine (if_pos ((linkIs_iff _).2 connected)).trans ?_
  rcases noise with short | spellsNone
  · exact if_neg (not_le.2 short)
  · rw [spellsNone]
    exact ite_self _

/-- R124: a report long enough that spells a signal is the signal. -/
theorem takeHeard_signal {sig : FarSignal} (connected : s.ports[p].link.state = .connected)
    (long : s.cfg.ports[p].minDuration ≤ duration) (spells : signalOf code data = some sig) :
    takeHeard p code duration data s = service p (takeSignal p sig s) := by
  refine (if_pos ((linkIs_iff _).2 connected)).trans ((if_pos long).trans ?_)
  rw [spells, judged]

theorem takeHeard_other (other : s.ports[p].link.state ≠ .connected) : takeHeard p code duration data s = s :=
  if_neg (mt (linkIs_iff _).1 other)
end

/-! ### The far end gone, by the state of the session -/

/-- R143: the far end has gone: a close ends without its receipt, a part goes on, any other session that is on the line ends. -/
def farGone (p : PortNo) (o : SlipOutcome) (s : State) : State :=
  match s.ports[p].session.state with
  | .closing => endClose p false s
  | .parting => releaseParted p s
  | .idle | .seizing | .releasing | .slipWait => s
  | _ => endSession p o 0 s

theorem sessionLost_eq (p : PortNo) (s : State) : sessionLost p s = farGone p .carrierLost s := rfl

theorem takeHang_eq (p : PortNo) (s : State) : takeHang p s = farGone p .farHung s := rfl

theorem farGone_closing (o : SlipOutcome) (closing : s.ports[p].session.state = .closing) : farGone p o s = endClose p false s := by
  simp only [farGone, closing]

theorem farGone_parting (o : SlipOutcome) (parting : s.ports[p].session.state = .parting) : farGone p o s = releaseParted p s := by
  simp only [farGone, parting]

theorem farGone_off (o : SlipOutcome) (off : s.ports[p].session.state ∈ [SessionState.idle, .seizing, .releasing, .slipWait]) :
    farGone p o s = s := by
  simp only [List.mem_cons, List.not_mem_nil, or_false] at off
  rcases off with state | state | state | state <;> simp only [farGone, state]

theorem farGone_ends (o : SlipOutcome)
    (on : s.ports[p].session.state ∉ [SessionState.idle, .seizing, .closing, .parting, .releasing, .slipWait]) :
    farGone p o s = endSession p o 0 s := by
  cases state : s.ports[p].session.state with
  | idle | seizing | closing | parting | releasing | slipWait => exact absurd (by rw [state]; decide) on
  | _ => simp only [farGone, state]

/-! ### DROP and the release timer -/

theorem takeDropCarrier_connected (connected : s.ports[p].link.state = .connected) : takeDropCarrier p s =
    farGone p .carrierLost (modLink p loseCarrier s) := (if_pos ((linkIs_iff _).2 connected)).trans (sessionLost_eq p _)

theorem takeDropCarrier_other (other : s.ports[p].link.state ≠ .connected) : takeDropCarrier p s = s :=
  if_neg (mt (linkIs_iff _).1 other)

theorem takeDropOnHook_releasing (releasing : s.ports[p].link.state = .releasing) : takeDropOnHook p s = completeRelease p s :=
  if_pos ((linkIs_iff _).2 releasing)

theorem takeDropOnHook_other (other : s.ports[p].link.state ≠ .releasing) : takeDropOnHook p s = s :=
  if_neg (mt (linkIs_iff _).1 other)

theorem releaseExpiry_due {e : Nat} (releasing : s.ports[p].link.state = .releasing) (runs : s.ports[p].link.releaseTimer = some e)
    (reached : e ≤ s.now) : releaseExpiry p s = completeRelease p s :=
  if_pos ⟨(linkIs_iff _).2 releasing, due_reached runs reached⟩

theorem releaseExpiry_waits (waits : s.ports[p].link.state ≠ .releasing ∨ ∀ e, s.ports[p].link.releaseTimer = some e → s.now < e) :
    releaseExpiry p s = s := by
  refine if_neg fun ⟨releasing, isDue⟩ => ?_
  rcases waits with other | early
  · exact other ((linkIs_iff _).1 releasing)
  · exact not_due early isDue
end

/-- Settles O30: each report by the link's state, DROP CARRIER also by the session's. -/
theorem linkReportsAreTaken : Obligations.LinkReportsAreTaken := by
  intro t s p running a q x l c port answers released lost
  refine ⟨fun dialling => ⟨?up, fun cause => ?fail⟩, fun other => ⟨?noUp, fun cause => ?noFail⟩,
    fun i rest connected calm outstanding => ?done, fun discards => ?noDone, fun connected flushing => ?flushed, fun discards => ?noFlush,
    fun connected => ⟨?slack, fun code duration data noise => ?noise⟩, fun other => ⟨?noSlack, fun code duration data => ?noHeard⟩,
    fun connected => ?drop, fun other => ?noDrop,
    fun releasing => ⟨?onHook, fun e runs reached => ?expires, fun early => ?early⟩, fun other => ⟨?noHook, ?noExpiry⟩,
    fun frame => exec_takes running rfl rfl⟩
  case up => exact exec_takes running rfl (takeUp_dialling (s := a) dialling)
  case fail =>
    refine exec_takes running rfl ((takeFail_dialling (s := a) dialling cause).trans ?_)
    cases cause <;> rfl
  case noUp => exact exec_takes running rfl (takeUp_other (s := a) other)
  case noFail => exact exec_takes running rfl (takeFail_other (s := a) other cause)
  case done => exact exec_takes running rfl (takeDoneItem_takes (s := a) connected calm outstanding)
  case noDone => exact exec_takes running rfl (takeDoneItem_discarded (s := a) discards)
  case flushed => exact exec_takes running rfl (takeDoneFlush_takes (s := a) connected flushing)
  case noFlush => exact exec_takes running rfl (takeDoneFlush_discarded (s := a) discards)
  case slack => exact exec_takes running rfl (takeSlack_connected (s := a) connected)
  case noise => exact exec_takes running rfl (takeHeard_noise (s := a) connected noise)
  case noSlack => exact exec_takes running rfl (takeSlack_other (s := a) other)
  case noHeard => exact exec_takes running rfl (takeHeard_other (s := a) other)
  case drop =>
    have gone {y : State} (falls : farGone p .carrierLost lost = y) : answers (.dropCarrier t p) y :=
      exec_takes running rfl ((takeDropCarrier_connected (s := a) connected).trans falls)
    have sameState : lost.ports[p].session.state = x.state := by simp [lost, port, x, q]
    rw [← sameState]
    exact ⟨fun closing => gone (farGone_closing _ closing), fun parting => gone (farGone_parting _ parting),
      fun off => gone (farGone_off _ off), fun on => gone (farGone_ends _ on)⟩
  case noDrop => exact exec_takes running rfl (takeDropCarrier_other (s := a) other)
  case onHook => exact exec_takes running rfl (takeDropOnHook_releasing (s := a) releasing)
  case expires => exact exec_takes running rfl (releaseExpiry_due (s := a) releasing runs reached)
  case early => exact exec_takes running rfl (releaseExpiry_waits (s := a) (.inr early))
  case noHook => exact exec_takes running rfl (takeDropOnHook_other (s := a) other)
  case noExpiry => exact exec_takes running rfl (releaseExpiry_waits (s := a) (.inl other))

end Sys2Proof.Machine
end

section
/-! PROOFS. What far signals spell, and those that a session does not wait for (O32). -/

namespace Sys2Proof.Machine

/-! ### What a report spells -/

theorem validRpm_iff (n : Nat) : validRpm n = true ↔ n ∈ [60, 90, 120] := by
  simp [validRpm, or_assoc]

theorem leNat_two (a b : Byte) : leNat [a, b] = a.toNat + 256 * b.toNat := by
  simp only [leNat_cons, leNat_nil]
  omega

theorem leNat_four (a b c d : Byte) :
    leNat [a, b, c, d] = a.toNat + 256 * b.toNat + 65536 * c.toNat + 16777216 * d.toNat := by
  simp only [leNat_cons, leNat_nil]
  omega

/-- R178: a number of 16 bits is what its two bytes spell. -/
theorem leNat_leBytes_two (n : BitVec 16) : leNat (leBytes 2 n.toNat) = n.toNat := by
  have bits := n.isLt
  rw [leBytes_two, leNat_two, BitVec.toNat_ofNat, BitVec.toNat_ofNat]
  omega

theorem leNat_leBytes_four (n : BitVec 32) : leNat (leBytes 4 n.toNat) = n.toNat := by
  have bits := n.isLt
  rw [leBytes_four, leNat_four, BitVec.toNat_ofNat, BitVec.toNat_ofNat, BitVec.toNat_ofNat, BitVec.toNat_ofNat]
  omega

/-- R184, log 47: the caption capable byte of a READY is 0 or 1. -/
theorem byte_zero_or_one (b : Byte) : (b = 0 ∨ b = 1) ↔ b.toNat ≤ 1 := by
  bv_omega

theorem signalOf_ready_eq (rpm lo hi cap : Byte) : signalOf 1 [rpm, lo, hi, cap] =
    if rpm.toNat ∈ [60, 90, 120] ∧ cap.toNat ≤ 1 then some (.ready rpm.toNat (lo.toNat + 256 * hi.toNat) (cap.toNat = 1)) else none := by
  have isOne : cap = 1 ↔ cap.toNat = 1 := BitVec.toNat_inj.symm
  rw [signalOf_ready, leNat_two]
  refine if_congr ?_ ?_ rfl
  · rw [Bool.and_eq_true, validRpm_iff, Bool.or_eq_true, decide_eq_true_eq, decide_eq_true_eq, byte_zero_or_one]
  · rw [decide_eq_decide.2 isOne]

/-- R123, R184: a READY of a drum speed it may declare is spelt by its own fields. -/
theorem signalOf_ready_spelt {rpm : Byte} (speed : rpm.toNat ∈ [60, 90, 120]) (ioc : BitVec 16) (capable : Bool) :
    signalOf 1 ([rpm] ++ leBytes 2 ioc.toNat ++ [flagByte capable]) = some (.ready rpm.toNat ioc.toNat capable) := by
  have number := leNat_leBytes_two ioc
  rw [leBytes_two, leNat_two] at number
  rw [leBytes_two]
  refine (signalOf_ready_eq rpm _ _ _).trans ?_
  rw [number]
  cases capable with
  | false => exact if_pos ⟨speed, Nat.zero_le 1⟩
  | true => exact if_pos ⟨speed, le_refl 1⟩

/-- R123, R184: a RECEIPT of a number it may carry is spelt by its four bytes. -/
theorem signalOf_receipt_spelt {n : BitVec 32} (small : n.toNat ≤ 999999) :
    signalOf 7 (leBytes 4 n.toNat) = some (.receipt n.toNat) := by
  have number := leNat_leBytes_four n
  rw [leBytes_four] at number
  rw [leBytes_four, signalOf_receipt, number]
  exact if_pos small

section
variable {p : PortNo} {s : State}

theorem hearSignal_spelt {code : Byte} {data : List Byte} {sig : FarSignal} (connected : s.ports[p].link.state = .connected)
    (spells : signalOf code data = some sig) : hearSignal p code data s = service p (takeSignal p sig s) := by
  refine (if_pos ((linkIs_iff _).2 connected)).trans ?_
  rw [spells, judged]

/-! ### HANG, RECEIPT, and the end of a close -/

theorem takeSignal_hang : takeSignal p .hang s = farGone p .farHung s := takeHang_eq p s

theorem takeSignal_receipt (closing : s.ports[p].session.state = .closing) (n : Nat) : takeSignal p (.receipt n) s =
    endClose p true (modCounts p (fun c => { c with receipt := n, receiptPresent := true }) s) := if_pos closing

/-- R142: the outcome of a close, by the lines delivered and the receipt. -/
theorem endClose_eq {j : Job} (job : s.ports[p].session.job = some j) (received : Bool) : endClose p received s =
    endSession p (if linesDelivered s.pics[j.pic] s.cfg.ports[p].bandLength s.ports[p].session.delivered < s.pics[j.pic].lines then .short
      else if received = true then .delivered else .deliveredNoReceipt) 0 s := by
  simp only [endClose, job]
  rfl

/-! ### Signals that are not expected -/

/-- R132, R134, R138, R142: the session waits for a signal of this kind; HANG is never out of place (R143). -/
def expects (x : Session) : FarSignal → Prop
  | .ready _ _ _ => x.state = .calling
  | .phased => x.state ∈ [SessionState.phasing, .awaitPhased]
  | .goodA | .goodB | .again | .wait => x.state ∈ [SessionState.awaitVerdict, .waiting]
  | .receipt _ => x.state = .closing
  | .hang => True

theorem awaitsVerdict_iff (st : SessionState) : awaitsVerdict st = true ↔ st ∈ [SessionState.awaitVerdict, .waiting] := by
  simp [awaitsVerdict]

theorem takeSignal_unexpected {sig : FarSignal} (other : ¬expects s.ports[p].session sig) : takeSignal p sig s = unexpected p s := by
  cases sig with
  | hang => exact absurd trivial other
  | ready rpm ioc capable => exact if_neg other
  | phased => exact if_neg fun awaited => other (by simpa [expects] using awaited)
  | receipt n => exact if_neg other
  | goodA | goodB | again | wait => exact if_neg (mt (awaitsVerdict_iff _).1 other)

theorem unexpected_sending (sending : s.ports[p].session.state = .sending) : unexpected p s = collide p s := by
  simp only [unexpected, sending]

theorem unexpected_off (off : s.ports[p].session.state ∈ [SessionState.idle, .seizing, .releasing, .slipWait]) : unexpected p s = s := by
  simp only [List.mem_cons, List.not_mem_nil, or_false] at off
  rcases off with state | state | state | state <;> simp only [unexpected, state]

theorem unexpected_noise (on : s.ports[p].session.state ∉ [SessionState.idle, .seizing, .sending, .releasing, .slipWait]) :
    unexpected p s = countNoise p s := by
  cases state : s.ports[p].session.state with
  | idle | seizing | sending | releasing | slipWait => exact absurd (by rw [state]; decide) on
  | _ => simp only [unexpected, state]

/-! ### Collisions -/

theorem composing_eq (q : Port) : composing q = q.link.transfer.bind fun y => pictureOf y.frame := by
  unfold composing
  cases q.link.transfer with
  | none => rfl
  | some y =>
    obtain ⟨frame, dropped, orphan⟩ := y
    cases frame with
    | picture pic line tones time bytes => cases pic <;> rfl
    | _ => rfl

/-- R47, R114: a FLUSH asked for leaves a PICTURE frame in transfer composed from its way. -/
theorem composing_askFlush (q : Port) : composing { q with link := askFlush q.link } = composing q := by
  rw [composing_eq, composing_eq]
  by_cases connected : q.link.state = .connected
  · cases transfer : q.link.transfer with
    | none =>
      rw [askFlush_free connected transfer]
      rfl
    | some y =>
      rw [askFlush_busy connected transfer]
      rfl
  · rw [askFlush_off connected]

/-- R141: a collision counts, and discards what waits for room (log 14). -/
def struck (x : Session) : Session :=
  { x with
    wishes := [], bandCollisions := x.bandCollisions + 1
    counts := { x.counts with collisions := min 255 (x.counts.collisions + 1) } }

/-- R47: a way once port `p` has dropped its pins but for the line whose frame is in transfer on it. -/
def unpinIdle (p : PortNo) (q : Port) (w : Way) : Way :=
  if composing q = some (w.pic, w.line) then w else { w with pins := w.pins.set p false }

/-- R141: the state once the collision has flushed the link, unpinned the lines and counted. -/
def collided (p : PortNo) (s : State) : State :=
  modStore (mapWays (unpinIdle p s.ports[p]))
    (modPort p (fun q => { q with wait := none, link := askFlush q.link, session := struck q.session }) s)

theorem collided_session : (collided p s).ports[p].session = struck s.ports[p].session := by
  simp [collided]

theorem collide_eq : collide p s =
    if 3 ≤ s.ports[p].session.bandCollisions + 1 then endSession p .lineNoise 0 (collided p s)
    else startTimer p .quiet quietTime (enterState p .quiet (leaveLive p true (collided p s))) := by
  have kept : composing (modLink p askFlush s).ports[p] = composing s.ports[p] := by
    simp only [Fin.getElem_fin, modLink_same, composing_askFlush]
  have flushed : modSession p struck (withdrawWait p (dropPins p (modLink p askFlush s))) = collided p s := by
    simp only [dropPins, kept]
    simp only [collided, withdrawWait, modSession, modLink, modPort_modStore, modPort_modPort]
    rfl
  have count : (collided p s).ports[p].session.bandCollisions = s.ports[p].session.bandCollisions + 1 := by
    rw [collided_session]
    rfl
  rw [← count, ← flushed]
  rfl

/-- R150: a member leaves the live set; another session stays as it is. -/
theorem leaveLive_eq : leaveLive p true s =
    modPipe (fun y => if s.ports[p].session.live = .member then reportDone p y else y) (modPort p (fun q =>
      { q with
        lineTimes := if q.session.live = .member then [] else q.lineTimes
        session := { q.session with
          live := if q.session.live = .member then .none else q.session.live
          counts := { q.session.counts with leftLive := q.session.counts.leftLive || decide (q.session.live = .member) } } }) s) := by
  by_cases member : s.ports[p].session.live = .member
  · rw [leaveLive_member member]
    simp only [member, if_true]
    refine congrArg _ (modPort_congr ?_)
    simp only [departed, member, if_true]
  · rw [leaveLive_other member, modPort_unchanged]
    · simp only [member, if_false]
      rfl
    · simp only [member, if_false, decide_false, Bool.or_false]

/-- R141: a first or second collision: the session is QUIET, out of the live set. -/
theorem collide_quiet (few : s.ports[p].session.bandCollisions + 1 < 3) : collide p s =
    modStore (mapWays (unpinIdle p s.ports[p]))
      (modPipe (fun y => if s.ports[p].session.live = .member then reportDone p y else y) (modPort p (fun q =>
        { q with
          wait := none, link := askFlush q.link, lineTimes := if q.session.live = .member then [] else q.lineTimes
          session := { struck q.session with
            state := .quiet, timer := some { kind := .quiet, expiry := s.now + 500000 }
            live := if q.session.live = .member then .none else q.session.live
            counts := { (struck q.session).counts with
              leftLive := q.session.counts.leftLive || decide (q.session.live = .member) } } }) s)) := by
  rw [collide_eq, if_neg (not_le.2 few), leaveLive_eq, collided_session]
  simp only [collided, startTimer, enterState, modSession, modPort_modStore, modPort_modPipe, modPort_modPort]
  rfl
end

/-- Settles O32: each row and a HEARD by what they spell; RECEIPT and HANG by the session's state; other signals by their not being
expected. -/
theorem farSignalsAreTaken : Obligations.FarSignalsAreTaken := by
  refine ⟨fun t s p running connected => ?rows, signalOf_ready_eq, fun a b c d => ?receipt, by decide, signalOf_isSome, fun s p => ?taken⟩
  case rows =>
    intro a taken
    have heard {code : Byte} {data : List Byte} {sig : FarSignal} (spells : signalOf code data = some sig) :
        hearSignal p code data a = service p (takeSignal p sig a) := hearSignal_spelt (s := a) connected spells
    exact ⟨fun rpm ioc capable speed => exec_takes running rfl (heard (signalOf_ready_spelt speed ioc capable)),
      exec_takes running rfl (heard rfl), exec_takes running rfl (heard rfl), exec_takes running rfl (heard rfl),
      exec_takes running rfl (heard rfl), exec_takes running rfl (heard rfl), exec_takes running rfl (heard rfl),
      fun n small => exec_takes running rfl (heard (signalOf_receipt_spelt small)),
      fun code duration data sig long spells => exec_takes running rfl (takeHeard_signal (s := a) connected long spells)⟩
  case receipt =>
    intro n
    rw [signalOf_receipt, leNat_four]
    rfl
  case taken =>
    intro q x session noise unpin hit flushed store
    refine ⟨fun n closing => takeSignal_receipt closing n, fun closing => takeSignal_hang.trans (farGone_closing _ closing),
      fun parting => takeSignal_hang.trans (farGone_parting _ parting), fun off => takeSignal_hang.trans (farGone_off _ off),
      fun on => takeSignal_hang.trans (farGone_ends _ on), fun received j job => ?closes,
      fun sig notHang phased ready verdict receipt => ?other⟩
    case closes =>
      intro r n whole
      refine (endClose_eq job received).trans ?_
      congr 1
      exact if_congr not_le.symm rfl rfl
    case other =>
      have notExpected : ¬expects x sig := by
        cases sig with
        | hang => exact absurd rfl notHang
        | ready rpm ioc capable => exact ready ⟨rpm, ioc, capable, rfl⟩
        | phased => exact phased rfl
        | receipt n => exact receipt ⟨n, rfl⟩
        | goodA | goodB | again | wait => exact verdict (by decide)
      rw [takeSignal_unexpected notExpected]
      refine ⟨unexpected_noise, unexpected_off, fun sending => ?_⟩
      rw [unexpected_sending sending]
      exact ⟨fun third => collide_eq.trans (if_pos third), collide_quiet⟩

end Sys2Proof.Machine
end

section
/-! PROOFS. The composition of a slip, and what slips hold (O27). -/

namespace Sys2Proof.Machine

/-! ### Composition -/

/-- R158: the outcomes of a line that served leave LINE as it is; every other sets it. -/
theorem setsLine_iff (o : SlipOutcome) : setsLine o = true ↔ ¬(o = .delivered ∨ o = .deliveredNoReceipt ∨ o = .short) := by
  simp [setsLine, and_assoc]

/-- R162: a slip blocks its port unless it is an ABORTED-UNSENT one. -/
theorem blocking_iff (x : Slip) : blocking x = true ↔ x.outcome ≠ .abortedUnsent := by
  simp [blocking]

theorem raiseLine_eq (o : SlipOutcome) (s : State) : (if setsLine o then raise classLine s else s) = { s with
    notice := { s.notice with
      flags := if o = .delivered ∨ o = .deliveredNoReceipt ∨ o = .short then s.notice.flags else s.notice.flags ||| 32 } } := by
  by_cases served : o = .delivered ∨ o = .deliveredNoReceipt ∨ o = .short
  · rw [if_neg (mt (setsLine_iff o).1 (not_not.2 served)), if_pos served]
  · rw [if_pos ((setsLine_iff o).2 served), if_neg served]
    rfl

/-- R159: the writer's judgement is about the ring and the pending slips: no port is touched. -/
theorem judgeWriter_ports (s : State) : (judgeWriter s).ports = s.ports := by
  rw [judgeWriter, judgeWriterFrom, apply_ite State.ports]
  exact ite_self _

/-- R155: the state once the slip's reference is released, LINE set, the slip pending, and the writer judged. -/
def pended (x : Slip) (s : State) : State :=
  judgeWriter { s with
    pics := s.pics.set x.pic { s.pics[x.pic] with refs := s.pics[x.pic].refs - 1 }
    notice := { s.notice with
      flags := if x.outcome = .delivered ∨ x.outcome = .deliveredNoReceipt ∨ x.outcome = .short then s.notice.flags
        else s.notice.flags ||| 32 }
    composer := { s.composer with pending := s.composer.pending ++ [x] } }

theorem pended_ports (x : Slip) (s : State) : (pended x s).ports = s.ports := judgeWriter_ports _

/-- R155, R162: a slip is pended, and if it blocks its port, the port may stand in SLIP-WAIT behind it. -/
theorem compose_eq (x : Slip) (s : State) : compose x s = if blocking x then blockPort x.port (pended x s) else pended x s := by
  simp only [compose, raiseLine_eq]
  rfl

/-- Settles O27: a slip's composition by its outcome and by its port, and the fields of the three sources of slips. -/
theorem slipsAreComposed : Obligations.SlipsAreComposed := by
  refine fun s p => ⟨fun x => ?composes, fun j => ⟨rfl, fun o => rfl, fun c ofJob => ?context⟩⟩
  case composes =>
    intro r z q
    have blocked : blockPort x.port z = if q.session.state = .idle ∧ q.active = none
        then { z with ports := z.ports.set x.port { q with session := { q.session with state := .slipWait } } } else z := by
      rw [blockPort, modSession, modPort, show z.ports = s.ports from pended_ports x s]
    rw [compose_eq, show pended x s = z from rfl, blocked, ← ite_and]
    exact if_congr (and_congr_left' (blocking_iff x)) rfl rfl
  case context =>
    subst ofJob
    rfl

end Sys2Proof.Machine
end

section
/-! PROOFS. Band start (O24). -/

namespace Sys2Proof.Machine

/-! ### The judgement of a band -/

section
variable {r : PictureRecord} {b len : Nat}

theorem judgeBand_closes (cut : r.state = .cut) (below : r.mark ≤ b * len) (member : Bool) : judgeBand r member b len = .closes :=
  if_pos ⟨cut, below⟩

/-- R135: a MEMBER's band is ready as soon as its first line is. -/
theorem judgeBand_member (stays : ¬(r.state = .cut ∧ r.mark ≤ b * len)) : judgeBand r true b len =
    if b * len < r.mark then .ready (min (b * len + len) r.lines - 1) else .notReady := by
  simp only [judgeBand, stays, if_false, true_and, Bool.true_eq_false, false_and]

theorem judgeBand_complete (complete : r.state = .complete) : judgeBand r false b len = .ready (min (b * len + len) r.lines - 1) := by
  simp [judgeBand, complete]

/-- R135: a band of a picture still SCANNING is ready for others once its last line is. -/
theorem judgeBand_scanning (scanning : r.state = .scanning) : judgeBand r false b len =
    if min (b * len + len) r.lines ≤ r.mark then .ready (min (b * len + len) r.lines - 1) else .notReady := by
  simp [judgeBand, scanning]

/-- R135: the band of a CUT picture ends at its mark. -/
theorem judgeBand_cut (cut : r.state = .cut) (above : b * len < r.mark) : judgeBand r false b len =
    .ready (min (b * len + len) r.mark - 1) := by
  simp [judgeBand, cut, above, not_le.2 above]
end

/-! ### What band start does -/

/-- R135: what band start does of a judgement. -/
def startJudged (p : PortNo) (v : BandJudgement) (s : State) : State :=
  match v with
  | .closes => closeSession p s
  | .ready last => beginPass p last s
  | .notReady => enterState p .standby s

section
variable {p : PortNo} {s : State} {j : Job} (job : s.ports[p].session.job = some j)
include job

theorem bandStart_eq : bandStart p s = startJudged p
    (judgeBand s.pics[j.pic] (s.ports[p].session.live = .member) s.ports[p].session.band s.cfg.ports[p].bandLength) s := by
  simp only [bandStart, job]
  rfl

theorem bandStart_member (member : s.ports[p].session.live = .member) : bandStart p s = startJudged p
    (judgeBand s.pics[j.pic] true s.ports[p].session.band s.cfg.ports[p].bandLength) s := by
  rw [bandStart_eq job, decide_eq_true member]

theorem bandStart_other (live : s.ports[p].session.live ≠ .member) : bandStart p s = startJudged p
    (judgeBand s.pics[j.pic] false s.ports[p].session.band s.cfg.ports[p].bandLength) s := by
  rw [bandStart_eq job, decide_eq_false live]
end

theorem closeSession_eq (p : PortNo) (s : State) : closeSession p s = modSession p (fun x =>
    { x with state := .closing, timer := none, wishes := x.wishes ++ [.close] }) s := by
  rw [closeSession, wish, enterState, modSession, modSession, modPort_modPort]
  rfl

/-- Settles O24: the judgement by the picture's state, the live status and the mark, and what follows from each judgement. -/
theorem bandsStart : Obligations.BandsStart := by
  intro s p j job q x r B F full port pass
  refine ⟨fun cut below => ?closes, fun stays => ⟨fun member above => ?passMember, fun live =>
    ⟨fun complete => ?passComplete, fun scanning whole => ?passScanning, fun cut => ?passCut⟩,
    fun member below => ?waitMember, fun live scanning short => ?waitScanning⟩⟩
  case closes =>
    rw [bandStart_eq job, judgeBand_closes cut below, startJudged, closeSession_eq]
    rfl
  case passMember =>
    rw [bandStart_member job member, judgeBand_member stays, if_pos above]
    rfl
  case waitMember =>
    rw [bandStart_member job member, judgeBand_member stays, if_neg (not_lt.2 below)]
    rfl
  case passComplete =>
    rw [bandStart_other job live, judgeBand_complete complete]
    rfl
  case passScanning =>
    rw [bandStart_other job live, judgeBand_scanning scanning, if_pos whole]
    rfl
  case waitScanning =>
    rw [bandStart_other job live, judgeBand_scanning scanning, if_neg (not_le.2 short)]
    rfl
  case passCut =>
    have above : F < r.mark := not_le.1 fun below => stays ⟨cut, below⟩
    rw [bandStart_other job live, judgeBand_cut cut above]
    rfl

end Sys2Proof.Machine
end

section
/-! PROOFS. The expiry of the session timers (O35). -/

namespace Sys2Proof.Machine

section
variable {p : PortNo} {s : State}

/-! ### Timers that are due -/

theorem timerDue_iff (kind : TimerKind) : timerDue s p kind = true ↔
    ∃ e ≤ s.now, s.ports[p].session.timer = some { kind := kind, expiry := e } := by
  unfold timerDue
  cases timer : s.ports[p].session.timer with
  | none => simp
  | some x =>
    obtain ⟨runs, expiry⟩ := x
    simp only [Bool.and_eq_true, decide_eq_true_eq, Option.some.injEq, SessionTimer.mk.injEq]
    constructor
    · exact fun ⟨isKind, reached⟩ => ⟨expiry, reached, isKind, rfl⟩
    · rintro ⟨e, reached, isKind, rfl⟩
      exact ⟨isKind, reached⟩

theorem expire_due {kind : TimerKind} (isDue : timerDue s p kind = true) (f : PortNo → State → State) : expire kind f p s =
    service p (f p (modSession p (fun x => { x with timer := none }) s)) := if_pos isDue

theorem expire_waits {kind : TimerKind} (waits : ¬timerDue s p kind = true) (f : PortNo → State → State) : expire kind f p s = s :=
  if_neg waits

/-! ### What follows the PHASED and the verdict timer -/

/-- R134: another round of phasing. -/
theorem phasedExpiry_again (rounds : s.ports[p].session.round < 3) : phasedExpiry p s = modSession p (fun x =>
    { x with state := .phasing, timer := none, round := x.round + 1, phasingHanded := 0 }) s := by
  refine (if_pos rounds).trans ?_
  rw [enterPhasing, enterState, modSession, modSession, modPort_modPort]
  rfl

theorem phasedExpiry_last (last : 3 ≤ s.ports[p].session.round) : phasedExpiry p s = endSession p .notPhased 0 s := if_neg (not_lt.2 last)

/-- R138: a query is asked for, and counts then (log 32). -/
theorem verdictExpiry_asks (few : s.ports[p].session.queries < 3) : verdictExpiry p s = modSession p (fun x =>
    { x with
      queries := x.queries + 1, wishes := x.wishes ++ [.query true]
      counts := { x.counts with queries := min 255 (x.counts.queries + 1) } }) s := by
  refine (if_pos few).trans ?_
  rw [wish, modSession, modSession, modPort_modPort]
  rfl

theorem verdictExpiry_last (last : 3 ≤ s.ports[p].session.queries) : verdictExpiry p s = endSession p .noVerdict 0 s :=
  if_neg (not_lt.2 last)
end

/-! ### The commands of the timers -/

/-- The command for the expiry of a session timer. -/
def expiryOf (kind : TimerKind) (t : Nat) (p : PortNo) : Instr :=
  match kind with
  | .seize => .seizeTimerExpiry t p
  | .ready => .readyTimerExpiry t p
  | .phased => .phasedTimerExpiry t p
  | .verdict => .verdictTimerExpiry t p
  | .wait => .waitTimerExpiry t p
  | .quiet => .quietTimerExpiry t p
  | .receipt => .receiptTimerExpiry t p

/-- R131, R132, R134, R138, R140, R141, R142: what follows the expiry of a session timer. -/
def afterExpiry (kind : TimerKind) (p : PortNo) : State → State :=
  match kind with
  | .seize => endSession p .lineFailed 0
  | .ready => endSession p .noAnswer 0
  | .phased => phasedExpiry p
  | .verdict => verdictExpiry p
  | .wait => waitExpiry p
  | .quiet => bandStart p
  | .receipt => endClose p false

section
variable {s : State} (kind : TimerKind) (t : Nat) (p : PortNo)

theorem exec_expiryOf : exec (expiryOf kind t p) s = act t (expire kind (afterExpiry kind) p) s := by
  cases kind <;> rfl

theorem exec_expiryOf_due (running : s.inReset = false) (isDue : timerDue (advance t s) p kind = true) :
    exec (expiryOf kind t p) s = .next (noteChanges (advance t s)
      (service p (afterExpiry kind p (modSession p (fun x => { x with timer := none }) (advance t s))))) := by
  rw [exec_expiryOf, act_running t _ s running, expire_due isDue]

/-- Log 2: the expiry of a timer that is not running or not due only lets time pass. -/
theorem exec_expiryOf_early (early : ¬timerDue (advance t s) p kind = true) : exec (expiryOf kind t p) s = .next (advance t s) := by
  rw [exec_expiryOf, act_unchanged (expire_waits early _)]
end

/-- Settles O35: a timer that is due stops, and the session does what follows it; one that is not due is no event. -/
theorem sessionTimersExpire : Obligations.SessionTimersExpire := by
  intro t s p running a q x session due answers asks
  have isDue (kind : TimerKind) : timerDue a p kind = true ↔ due kind := timerDue_iff (s := a) kind
  have expires (kind : TimerKind) {y : State} (reached : due kind) (follows : afterExpiry kind p (session x) = y) :
      answers (expiryOf kind t p) y := follows ▸ exec_expiryOf_due kind t p running ((isDue kind).2 reached)
  have here (y : Session) : (session y).ports[p].session = y := by simp [session]
  have changed (f : Session → Session) (y : Session) : modSession p f (session y) = session (f y) :=
    modPort_modPort p _ (fun v => { v with session := y }) a
  have queries {i : Instr} {y : Session} (same : y.queries = x.queries ∧ y.wishes = x.wishes ∧ y.counts = x.counts)
      (taken : ∀ z, verdictExpiry p (session y) = z → answers i z) : asks i y := by
    obtain ⟨asked, wishes, counts⟩ := same
    refine ⟨fun few => taken _ ?_, fun last => taken _ (verdictExpiry_last (by rwa [here, asked]))⟩
    rw [verdictExpiry_asks (by rwa [here, asked]), changed, asked, wishes, counts]
  refine ⟨fun reached => expires .seize reached rfl, fun reached => expires .ready reached rfl,
    fun reached => ⟨fun rounds => ?again, fun last => ?unphased⟩,
    fun reached => queries ⟨rfl, rfl, rfl⟩ fun z follows => expires .verdict reached follows,
    fun reached => queries ⟨rfl, rfl, rfl⟩ fun z follows => expires .wait reached ?wait,
    fun reached => expires .quiet reached rfl, fun reached => expires .receipt reached rfl, fun i kind row early => ?early⟩
  case again => exact expires .phased reached ((phasedExpiry_again (by rwa [here])).trans (changed _ x))
  case unphased => exact expires .phased reached (phasedExpiry_last (by rwa [here]))
  case wait =>
    refine Eq.trans ?_ follows
    exact congrArg (verdictExpiry p) (changed _ x)
  case early =>
    have isExpiry : i = expiryOf kind t p := by
      simp only [List.mem_cons, List.not_mem_nil, or_false, Prod.mk.injEq] at row
      obtain ⟨rfl, rfl⟩ | ⟨rfl, rfl⟩ | ⟨rfl, rfl⟩ | ⟨rfl, rfl⟩ | ⟨rfl, rfl⟩ | ⟨rfl, rfl⟩ | ⟨rfl, rfl⟩ := row <;> rfl
    rw [isExpiry]
    exact exec_expiryOf_early kind t p (mt (isDue kind).1 early)

end Sys2Proof.Machine
end

section
/-! PROOFS. The verdicts of the far end (O34). -/

namespace Sys2Proof.Machine

theorem modSession_modSession (p : PortNo) (f g : Session → Session) (s : State) :
    modSession p f (modSession p g s) = modSession p (fun x => f (g x)) s := modPort_modPort p _ _ s

section
variable {p : PortNo} {s : State}

/-! ### AGAIN and WAIT -/

/-- R140: a band that is not accepted: the counts of queries and WAITs start anew, and its AGAINs gain one. -/
def rejected (x : Session) : Session := { x with queries := 0, waitRun := 0, agains := x.agains + 1 }

theorem againVerdict_eq : againVerdict p s = if 4 ≤ s.ports[p].session.agains + 1
    then endSession p .bandRejected 0 (modSession p rejected s) else bandStart p (leaveLive p true (modSession p rejected s)) := by
  have count : (modSession p rejected s).ports[p].session.agains = s.ports[p].session.agains + 1 := by simp [rejected]
  rw [← count]
  rfl

/-- R140: the ninth WAIT in a row ends the session; another keeps it WAITING, out of the live set. -/
theorem waitVerdict_eq : waitVerdict p s = if 8 < s.ports[p].session.waitRun + 1
    then endSession p .farStalled 0 (modSession p (fun x => { x with waitRun := x.waitRun + 1 }) s)
    else leaveLive p true (modSession p (fun x =>
      { x with
        waitRun := x.waitRun + 1, queries := 0, state := .waiting
        timer := some { kind := .wait, expiry := s.now + s.cfg.ports[p].waitTime * 1000000 } }) s) := by
  have count : (modSession p (fun x => { x with waitRun := x.waitRun + 1 }) s).ports[p].session.waitRun =
      s.ports[p].session.waitRun + 1 := by simp
  rw [← count]
  refine if_congr Iff.rfl rfl ?_
  rw [leaveLive_eq, leaveLive_eq]
  simp only [startTimer, enterState, modSession, modPort_modPipe, modPort_modPort, Fin.getElem_fin, modPort_same]
  rfl

/-! ### GOOD -/

/-- R84: a port that has left the awaited list is not on it. -/
theorem dropAwaited_twice (q : Pipeline) : dropAwaited p (dropAwaited p q) = dropAwaited p q := by
  cases hold : q.hold with
  | none => rw [dropAwaited_free p hold, dropAwaited_free p hold]
  | some l =>
    rw [dropAwaited_held p hold]
    by_cases alone : ∀ a ∈ l, a.port = p
    · exact dropAwaited_free p (if_pos alone)
    · have others : ¬∀ a ∈ l.filter fun a => a.port ≠ p, a.port = p := by simpa using alone
      rw [if_neg alone, dropAwaited_held p rfl, if_neg others, List.filter_filter]
      simp only [Bool.and_self]

theorem reportDone_twice (q : Pipeline) : reportDone p (reportDone p q) = reportDone p q := by
  unfold reportDone
  by_cases idle : q.state = .idle
  · rw [if_neg (not_not.2 idle), if_neg (not_not.2 idle)]
  · rw [if_pos idle, dropAwaited_twice]
    exact ite_self _

/-- R139: a GOOD of a member's band is reported. -/
def reportGood (p : PortNo) (s : State) : State := if s.ports[p].session.live = .member then modPipe (reportDone p) s else s

theorem reportGood_eq : reportGood p s = modPipe (fun y => if s.ports[p].session.live = .member then reportDone p y else y) s := by
  unfold reportGood
  split <;> rfl

/-- R139, R150: a member that leaves the live set on a GOOD is reported once. -/
theorem leaveLive_reportGood (f : Session → Session) (live : (f s.ports[p].session).live = s.ports[p].session.live) :
    leaveLive p true (modSession p f (reportGood p s)) = leaveLive p true (modSession p f s) := by
  by_cases member : s.ports[p].session.live = .member
  · have stays : (modSession p f s).ports[p].session.live = .member := by
      simpa only [Fin.getElem_fin, modSession_same] using live.trans member
    have same : modSession p f (reportGood p s) = modPipe (reportDone p) (modSession p f s) := by
      rw [reportGood, if_pos member]
      rfl
    rw [same, leaveLive_member stays, leaveLive_member (s := modPipe (reportDone p) (modSession p f s)) stays, modPort_modPipe]
    exact congrArg (fun y => { modPort p departed (modSession p f s) with pipe := y }) (reportDone_twice s.pipe)
  · rw [reportGood, if_neg member]

/-- R139: an accepted band: the counts of queries and WAITs start anew, and the delivered mark is above it. -/
def accepted (x : Session) : Session := { x with queries := 0, waitRun := 0, delivered := max x.delivered (x.band + 1) }

theorem accepted_session : (modSession p accepted (reportGood p s)).ports[p].session = accepted s.ports[p].session := by
  simp [reportGood_eq]

/-- R139: a stale band is repeated, at most twice. -/
theorem goodVerdict_repeats (stale : s.ports[p].session.stale = true) (few : s.ports[p].session.staleResends < 2) :
    goodVerdict p s = bandStart p (leaveLive p true
      (modSession p (fun x => { accepted x with staleResends := x.staleResends + 1 }) s)) := by
  have repeats : (modSession p accepted (reportGood p s)).ports[p].session.stale = true ∧
      (modSession p accepted (reportGood p s)).ports[p].session.staleResends < staleLimit := by
    rw [accepted_session]
    exact ⟨stale, few⟩
  have resent := leaveLive_reportGood (s := s) (p := p) (fun x => { accepted x with staleResends := x.staleResends + 1 }) rfl
  refine (if_pos repeats).trans (congrArg (bandStart p) (Eq.trans ?_ resent))
  exact congrArg (leaveLive p true) (modSession_modSession p _ accepted (reportGood p s))

/-- R139: a band that is stale once more goes on with its alteration counted. -/
theorem goodVerdict_alters (stale : s.ports[p].session.stale = true) (last : 2 ≤ s.ports[p].session.staleResends) :
    goodVerdict p s = nextBand p (modSession p (fun x =>
      { accepted x with counts := { x.counts with alterations := min 65535 (x.counts.alterations + 1) } }) (reportGood p s)) := by
  have spent : ¬((modSession p accepted (reportGood p s)).ports[p].session.stale = true ∧
      (modSession p accepted (reportGood p s)).ports[p].session.staleResends < staleLimit) := by
    rw [accepted_session]
    exact fun repeats => absurd repeats.2 (not_lt.2 last)
  have isStale : (modSession p accepted (reportGood p s)).ports[p].session.stale = true := by rwa [accepted_session]
  refine (if_neg spent).trans ((if_pos isStale).trans (congrArg (nextBand p) ?_))
  exact modSession_modSession p _ accepted (reportGood p s)

theorem goodVerdict_accepts (fresh : s.ports[p].session.stale = false) : goodVerdict p s =
    nextBand p (modSession p accepted (reportGood p s)) := by
  have unaltered : ¬(modSession p accepted (reportGood p s)).ports[p].session.stale = true := by
    rw [accepted_session]
    exact Bool.eq_false_iff.1 fresh
  exact (if_neg (mt And.left unaltered)).trans (if_neg unaltered)

section
variable {j : Job} (job : s.ports[p].session.job = some j)
include job

/-- R139: the session closes after its picture's last band. -/
theorem nextBand_closes (last : s.ports[p].session.band = lastBand s.pics[j.pic] s.cfg.ports[p].bandLength) :
    nextBand p s = modSession p (fun x => { x with state := .closing, timer := none, wishes := x.wishes ++ [.close] }) s := by
  rw [← closeSession_eq]
  simp only [nextBand, job]
  exact if_pos last

theorem nextBand_goesOn (more : s.ports[p].session.band ≠ lastBand s.pics[j.pic] s.cfg.ports[p].bandLength) :
    nextBand p s = boundary p (bandStart p) (modSession p (fun x =>
      { x with band := x.band + 1, agains := 0, bandCollisions := 0, staleResends := 0 }) s) := by
  simp only [nextBand, job]
  exact if_neg more
end

/-! ### The verdict a signal brings -/

/-- R138: a port whose wait for a verdict is over. -/
def calmPort (q : Port) : Port :=
  { q with link := calmLink q.link, session := { q.session with timer := none, wishes := q.session.wishes.map calmWish } }

theorem stopVerdict_port : (stopVerdict p s).ports[p] = calmPort s.ports[p] := modPort_same p calmPort s

/-- R139: GOOD-A is the token of an even band, GOOD-B that of an odd one. -/
theorem takeGood_expected {a : Bool} (expected : s.ports[p].session.band % 2 = 0 ↔ a = true) :
    takeGood p a s = goodVerdict p (stopVerdict p s) := by
  refine if_pos ?_
  rw [stopVerdict_port]
  exact propext expected

theorem takeGood_other {a : Bool} (other : ¬(s.ports[p].session.band % 2 = 0 ↔ a = true)) :
    takeGood p a s = againVerdict p (countNoise p (stopVerdict p s)) := by
  refine if_neg ?_
  rw [stopVerdict_port]
  exact mt Eq.to_iff other

section
variable (awaits : awaitsVerdict s.ports[p].session.state = true)
include awaits

theorem takeSignal_goodA : takeSignal p .goodA s = takeGood p true s := if_pos awaits
theorem takeSignal_goodB : takeSignal p .goodB s = takeGood p false s := if_pos awaits
theorem takeSignal_again : takeSignal p .again s = againVerdict p (stopVerdict p s) := if_pos awaits
theorem takeSignal_wait : takeSignal p .wait s = waitVerdict p (stopVerdict p s) := if_pos awaits
end
end

/-- Settles O34: what each signal brings, by the parity of the band, and what each verdict does to the port whose wait is over. -/
theorem sessionsTakeVerdicts : Obligations.SessionsTakeVerdicts := by
  intro s p j job state q r B calmed calmedFrame calmedWish calm x port off left away again good noisy
  have awaits : awaitsVerdict s.ports[p].session.state = true := (awaitsVerdict_iff _).2 (by simpa using state)
  have isCalm : calmPort q = calm := by
    have items : calmItem = calmed := funext fun i => by cases i <;> rfl
    have frames : calmFrame = calmedFrame := funext fun f => by cases f <;> rfl
    have wishes : calmWish = calmedWish := funext fun w => by cases w <;> rfl
    rw [calmPort, calmLink, items, frames, wishes]
  have stopped : stopVerdict p s = port calm := by rw [← isCalm]; rfl
  have here (y : Session) : (port { calm with session := y }).ports[p].session = y := by simp [port]
  have calmSession : (port calm).ports[p].session = x := here x
  have changed (f : Session → Session) (y : Session) :
      modSession p f (port { calm with session := y }) = port { calm with session := f y } :=
    modPort_modPort p _ (fun _ => { calm with session := y }) s
  have leaves (y : Session) (live : y.live = x.live) : leaveLive p true (port { calm with session := y }) = away y := by
    rw [leaveLive_eq, here, live]
    refine (congrArg (modPipe _) (modPort_modPort p _ (fun _ => { calm with session := y }) s)).trans ?_
    simp only [away, left, live]
    rfl
  have rejects {y : Session} {sig : FarSignal} (live : y.live = x.live)
      (taken : takeSignal p sig s = againVerdict p (port { calm with session := y })) : again y sig := by
    rw [againVerdict_eq, here, changed] at taken
    refine ⟨fun fourth => taken.trans (if_pos fourth), fun few => (taken.trans (if_neg (not_le.2 few))).trans ?_⟩
    exact congrArg (bandStart p) (leaves (rejected y) live)
  have accepts {sig : FarSignal} (taken : takeSignal p sig s = goodVerdict p (port calm)) : good sig := by
    unfold good
    intro y kept next
    have reported (z : Session) : (kept z).ports[p].session = z := here z
    have reports (f : Session → Session) : modSession p f (reportGood p (port calm)) = kept (f x) := by
      rw [reportGood_eq, calmSession]
      exact congrArg (modPipe fun y => if off then reportDone p y else y) (changed f x)
    have follows (f : Session → Session) (sameJob : (f x).job = x.job) (sameBand : (f x).band = x.band)
        (goesOn : goodVerdict p (port calm) = nextBand p (modSession p f (reportGood p (port calm)))) : next (f x) := by
      rw [reports] at goesOn
      have hasJob : (kept (f x)).ports[p].session.job = some j := by rw [reported, sameJob]; exact job
      have band : (kept (f x)).ports[p].session.band = x.band := by rw [reported, sameBand]
      have keeps (g : Session → Session) : modSession p g (kept (f x)) = kept (g (f x)) :=
        congrArg (modPipe fun y => if off then reportDone p y else y) (changed g (f x))
      refine ⟨fun last => ?_, fun more => ?_⟩
      · rw [taken, goesOn, nextBand_closes hasJob (band.trans last), keeps]
      · rw [taken, goesOn, nextBand_goesOn hasJob (band ▸ more), keeps, sameBand]
    refine ⟨fun stale few => ?repeats, fun stale last => ?alters, fun fresh => ?accepts⟩
    case repeats =>
      rw [taken, goodVerdict_repeats (by rwa [calmSession]) (by rwa [calmSession])]
      exact congrArg (bandStart p) ((congrArg (leaveLive p true) (changed _ x)).trans (leaves _ rfl))
    case alters => exact follows _ rfl rfl (goodVerdict_alters (by rwa [calmSession]) (by rwa [calmSession]))
    case accepts => exact follows _ rfl rfl (goodVerdict_accepts (by rwa [calmSession]))
  have noise : countNoise p (stopVerdict p s) = port { calm with session := noisy } := by
    rw [stopped]
    exact changed (fun z => { z with counts := { z.counts with noise := min 255 (z.counts.noise + 1) } }) x
  refine ⟨fun even => ⟨accepts ?evenA, rejects rfl ?evenB⟩, fun odd => ⟨accepts ?oddB, rejects rfl ?oddA⟩, rejects rfl ?again,
    fun ninth => ?stalled, fun few => ?waits⟩
  case evenA => rw [takeSignal_goodA awaits, takeGood_expected (iff_of_true even rfl), stopped]
  case evenB => rw [takeSignal_goodB awaits, takeGood_other (fun same => Bool.noConfusion (same.1 even)), noise]
  case oddB =>
    rw [takeSignal_goodB awaits, takeGood_expected (iff_of_false (Nat.mod_two_ne_zero.2 odd) Bool.false_ne_true), stopped]
  case oddA => rw [takeSignal_goodA awaits, takeGood_other (fun same => Nat.mod_two_ne_zero.2 odd (same.2 rfl)), noise]
  case again => rw [takeSignal_again awaits, stopped]
  case stalled =>
    rw [takeSignal_wait awaits, stopped, waitVerdict_eq, calmSession, if_pos ninth]
    exact congrArg _ (changed _ x)
  case waits =>
    rw [takeSignal_wait awaits, stopped, waitVerdict_eq, calmSession, if_neg (not_lt.2 few)]
    exact (congrArg (leaveLive p true) (changed _ x)).trans (leaves _ rfl)

end Sys2Proof.Machine
end

section
/-! PROOFS. The slip writer's state, and the end of a slip record write (O16). -/

namespace Sys2Proof.Machine

/-! ### The slip writer's state -/

/-- R1: a window is missing where no entry is of its kind. -/
theorem windowOf_eq_none {ws : Vector WindowEntry 8} {kind : WindowKind} :
    windowOf ws kind = none ↔ ∀ w ∈ ws.toList, w.kind ≠ kind := by
  simp only [windowOf, List.find?_eq_none, decide_eq_true_eq, ne_eq]

/-- R159: the conditions of the writer's states, the first that holds deciding. -/
theorem writerState_eq (s : State) : writerState s =
    if s.composer.pending = [] then .idle
    else if s.composer.nextSerial = none then .spent
    else if ∀ w ∈ s.cfg.windows.toList, w.kind ≠ .slips then .noRing
    else if s.composer.filled[s.composer.index]? = some true then .blocked
    else .writing := by
  have noSlips : (slipsBase s).isNone = true ↔ ∀ w ∈ s.cfg.windows.toList, w.kind ≠ .slips := by
    rw [slipsBase, Option.isNone_map, Option.isNone_iff_eq_none, windowOf_eq_none]
  have full : s.composer.filled.getD s.composer.index false = true ↔ s.composer.filled[s.composer.index]? = some true := by
    rw [List.getD_eq_getElem?_getD]
    cases s.composer.filled[s.composer.index]? <;> simp
  exact if_congr List.isEmpty_iff rfl (if_congr Option.isNone_iff_eq_none rfl (if_congr noSlips rfl (if_congr full rfl rfl)))

/-- R159: the states in which a slip waits and cannot be written. -/
theorem setsRing_iff (v : WriterState) : setsRing v = true ↔ v ≠ .idle ∧ v ≠ .writing := by
  cases v <;> decide

/-- R159: the judgement changes the writer's state and, where it enters a state that sets it, the RING notice. -/
theorem judgeWriter_eq (s : State) : judgeWriter s = { s with
    composer := { s.composer with writer := writerState s }
    notice := { s.notice with
      flags := if writerState s ≠ s.composer.writer ∧ writerState s ≠ .idle ∧ writerState s ≠ .writing then s.notice.flags ||| 4
        else s.notice.flags } } := by
  have rings : setsRing (writerState s) = true ∧ writerState s ≠ s.composer.writer ↔
      writerState s ≠ s.composer.writer ∧ writerState s ≠ .idle ∧ writerState s ≠ .writing := by
    rw [and_comm, setsRing_iff]
  by_cases enters : writerState s ≠ s.composer.writer ∧ writerState s ≠ .idle ∧ writerState s ≠ .writing
  · rw [if_pos enters]
    exact if_pos (rings.2 enters)
  · rw [if_neg enters]
    exact if_neg (mt rings.1 enters)

/-! ### The end of a slip record write -/

/-- R160: the state once the head slip, of serial `n`, stands in slot `i` and the slips `rest` are left; SLIP is set. -/
def slipStored (i addr n : Nat) (bytes : List Byte) (rest : List Slip) (s : State) : State := { s with
  mem := applyAccesses s.mem (slipAccesses addr bytes), unit := none
  composer := { s.composer with
    filled := s.composer.filled.set i true, pending := rest, openJobs := s.composer.openJobs - 1
    nextSerial := if n = 4294967295 then none else some (n + 1)
    index := (s.composer.index + 1) % s.cfg.ringCapacity }
  notice := { s.notice with flags := s.notice.flags ||| 2 } }

/-- R162: no slip that blocks the port of `x`, which did, is left among `rest`. -/
def FreesPort (x : Slip) (rest : List Slip) : Prop :=
  x.outcome ≠ .abortedUnsent ∧ ∀ z ∈ rest, z.port = x.port → z.outcome = .abortedUnsent

theorem freesPort_iff (x : Slip) (c : Composer) :
    blocking x = true ∧ blockingPending c x.port = false ↔ FreesPort x c.pending := by
  rw [FreesPort, blocking_iff, not_blockingPending_iff]
  push Not
  rfl

section
variable {s : State} {i addr n : Nat} {bytes : List Byte} {x : Slip} {rest : List Slip}
  (unit : s.unit = some (.slipWrite i addr bytes)) (pending : s.composer.pending = x :: rest)
  (serial : s.composer.nextSerial = some n)
include unit pending serial

theorem endSlipWrite_eq : endSlipWrite s = judgeWriter
    (if blocking x ∧ blockingPending (slipStored i addr n bytes rest s).composer x.port = false
      then portFreed x.port (slipStored i addr n bytes rest s) else slipStored i addr n bytes rest s) := by
  have written : slipWritten i s.cfg.ringCapacity s.composer = (slipStored i addr n bytes rest s).composer := by
    simp only [slipWritten, pending, serial, List.tail_cons, Option.bind_some]
    rfl
  simp only [endSlipWrite, unit, endUnit_composer, endUnit_cfg, pending, written]
  rfl

/-- R160, R162: the last slip that blocks a port lets it go on. -/
theorem endSlipWrite_frees (frees : FreesPort x rest) :
    endSlipWrite s = judgeWriter (portFreed x.port (slipStored i addr n bytes rest s)) := by
  rw [endSlipWrite_eq unit pending serial, if_pos ((freesPort_iff _ _).2 frees)]

/-- R160: any other leaves the ports as they are. -/
theorem endSlipWrite_stays (stays : ¬FreesPort x rest) :
    endSlipWrite s = judgeWriter (slipStored i addr n bytes rest s) := by
  rw [endSlipWrite_eq unit pending serial, if_neg (mt (freesPort_iff _ _).1 stays)]
end

/-- Settles O16: the end of the write by whether the slip's port is free of blocking slips, and the judgement of the writer. -/
theorem slipRecordWriteEnds : Obligations.SlipRecordWriteEnds := by
  refine ⟨fun t s i addr n bytes x rest running unit pending serial => ⟨fun frees => ?frees, fun stays => ?stays⟩, fun s => ?judges⟩
  case frees => exact exec_takes running rfl (endSlipWrite_frees (s := advance t s) unit pending serial frees)
  case stays => exact exec_takes running rfl (endSlipWrite_stays (s := advance t s) unit pending serial stays)
  case judges =>
    have judged := judgeWriter_eq s
    rw [writerState_eq] at judged
    exact judged

end Sys2Proof.Machine
end

section
/-! PROOFS. The desk clock (O45). -/

namespace Sys2Proof.Machine

/-! ### The second -/

/-- R171: a second that is up goes from the µs count to the seconds. -/
theorem clockSecond_up {s : State} (up : 1000000 ≤ s.clock.micros) : clockSecond s =
    { s with clock := { seconds := s.clock.seconds + 1, micros := s.clock.micros - 1000000 } } := if_pos up

/-- R171: a second that is not up is no event (log 2). -/
theorem clockSecond_early {s : State} (early : s.clock.micros < 1000000) : clockSecond s = s := if_neg (not_le.2 early)

/-! ### The second as a command -/

theorem exec_deskClockSecond (t : Nat) (s : State) : exec (.deskClockSecond t) s = .next
    (if s.inReset then clockSecond (advance t s) else noteChanges (advance t s) (clockSecond (advance t s))) := rfl

/-- R173: out of reset the Status Writer learns of the second. -/
theorem exec_deskClockSecond_running (t : Nat) {s : State} (running : s.inReset = false) :
    exec (.deskClockSecond t) s = .next (noteChanges (advance t s) (clockSecond (advance t s))) := by
  rw [exec_deskClockSecond, if_neg (ne_true_of_eq_false running)]

/-- R177: the desk clock goes on while RESET is low (log 22). -/
theorem exec_deskClockSecond_inReset (t : Nat) {s : State} (inReset : s.inReset = true) :
    exec (.deskClockSecond t) s = .next (clockSecond (advance t s)) := by
  rw [exec_deskClockSecond, if_pos inReset]

theorem exec_deskClockSecond_early {t : Nat} {s : State} (early : (advance t s).clock.micros < 1000000) :
    exec (.deskClockSecond t) s = .next (advance t s) := by
  rw [exec_deskClockSecond, clockSecond_early early, noteChanges_self, ite_self]

/-- Log 1: a command adds the µs that have passed, none if its time has gone by. -/
theorem advance_micros (t : Nat) (s : State) : (advance t s).clock.micros = s.clock.micros + (t - s.now) := by
  have passed : max s.now t - s.now = t - s.now := by omega
  rw [advance_clock, passed]

/-- Settles O45: by whether the second is up, and if it is, by whether RESET is low. -/
theorem deskClockCounts : Obligations.DeskClockCounts := by
  intro t s a y
  have second (up : 1000000 ≤ a.clock.micros) : clockSecond a = y := clockSecond_up up
  refine ⟨rfl, advance_micros t s, fun up running => ?running, fun up inReset => ?inReset, exec_deskClockSecond_early⟩
  case running => rw [exec_deskClockSecond_running t running, second up]
  case inReset => rw [exec_deskClockSecond_inReset t inReset, second up]

end Sys2Proof.Machine
end

section
/-! PROOFS. One step and the queue (O1); what leaves memory alone, and that memory changes only by accesses of the unit in progress,
which keep its canonical form (O55). -/

namespace Sys2Proof.Machine

/-! ### One step -/

/-- Log 3: a step takes the command at the front of the queue. -/
theorem step_front (c : Instr) (rest : List Instr) (s : State) :
    step { s with pending := c :: rest } = exec c { s with pending := rest } := rfl

/-- Log 3: on an empty queue the block idles. -/
theorem step_empty {s : State} (empty : s.pending = []) : step s = .next s := by
  unfold step
  rw [empty]

/-- What a step that answers has done: the block has idled, or the command at the front has run. -/
theorem step_cases {s s' : State} (next : step s = .next s') :
    s' = s ∨ ∃ c rest, s.pending = c :: rest ∧ exec c { s with pending := rest } = .next s' := by
  cases queue : s.pending with
  | nil =>
    rw [step_empty queue] at next
    cases next
    exact .inl rfl
  | cons c rest =>
    refine .inr ⟨c, rest, rfl, ?_⟩
    rw [← next, ← step_front, ← queue]

/-- Settles O1: both clauses are equations of `step`. -/
theorem stepTakesTheFrontCommand : Obligations.StepTakesTheFrontCommand :=
  ⟨step_front, fun _ => step_empty⟩

/-! ### What leaves memory alone -/

/-- The operations of sessions, ports, slips and staged lines leave memory alone. -/
theorem mem_of_sessionPart {a b : State} (h : sessionPart b = sessionPart a) : b.mem = a.mem := by
  have parts : (sessionPart b).mem = (sessionPart a).mem := by rw [h]
  exact parts

theorem mem_foldl {α : Type} {f : State → α → State} (each : ∀ x a, (f x a).mem = x.mem) (l : List α) (s : State) :
    (l.foldl f s).mem = s.mem := by
  induction l generalizing s with
  | nil => rfl
  | cons a l ih => rw [List.foldl_cons, ih, each]

theorem mem_forPorts {f : PortNo → State → State} (each : ∀ p x, sessionPart (f p x) = sessionPart x) (s : State) :
    (forPorts f s).mem = s.mem := mem_of_sessionPart (sessionPart_forPorts f each s)

@[simp] theorem judgeWriter_mem (s : State) : (judgeWriter s).mem = s.mem := mem_of_sessionPart (sessionPart_judgeWriter s)
@[simp] theorem orderOut_mem (p : PortNo) (s : State) : (orderOut p s).mem = s.mem := mem_of_sessionPart (sessionPart_orderOut p s)
@[simp] theorem service_mem (p : PortNo) (s : State) : (service p s).mem = s.mem := mem_of_sessionPart (sessionPart_service p s)
theorem expire_mem (kind : TimerKind) {f : PortNo → State → State} {p : PortNo}
    (plain : ∀ x, sessionPart (f p x) = sessionPart x) (s : State) : (expire kind f p s).mem = s.mem :=
  mem_of_sessionPart (sessionPart_expire kind f p s plain)

/-! #### The drum and the pipeline -/

@[simp] theorem scanEnd_mem (k : Fin 16) (s : State) : (scanEnd k s).mem = s.mem := by
  simp only [scanEnd, modPipe_mem, raise_mem, modDrum_mem, mem_forPorts (sessionPart_tellScanEnd k)]

@[simp] theorem cutPicture_mem (k : Fin 16) (cause : CutCause) (s : State) : (cutPicture k cause s).mem = s.mem := by
  unfold cutPicture
  split <;> simp

@[simp] theorem drumFault_mem (cause : FaultCause) (s : State) : (drumFault cause s).mem = s.mem := by
  unfold drumFault
  dsimp only
  split <;> simp

@[simp] theorem setHold_mem (n : Nat) (s : State) : (setHold n s).mem = s.mem := by
  unfold setHold
  split <;> rfl

@[simp] theorem acceptLine_mem (wb : Nat × Nat) (heldRef : Bool) (t0 v : Nat) (r : Revolution) (s : State) :
    (acceptLine wb heldRef t0 v r s).mem = s.mem := by
  simp only [acceptLine, setHold_mem, modDrum_mem, modPipe_mem]

@[simp] theorem referenceFault_mem (t0 v : Nat) (r : Revolution) (s : State) : (referenceFault t0 v r s).mem = s.mem := by
  unfold referenceFault
  dsimp only
  split
  · simp
  · split <;> simp

@[simp] theorem judgeRev_mem (a b : Option DrumState) (t0 v : Nat) (s : State) : (judgeRev a b t0 v s).mem = s.mem := by
  unfold judgeRev
  split
  · rfl
  · split_ifs <;> simp

@[simp] theorem advanceWaits_mem (s : State) : (advanceWaits s).mem = s.mem := by
  unfold advanceWaits
  split
  · rfl
  · exact mem_foldl (fun x (a : Awaited) => orderOut_mem a.port x) _ _

@[simp] theorem startScan_mem (t0 v : Nat) (s : State) : (startScan t0 v s).mem = s.mem := by
  simp only [startScan, modPipe_mem, mem_forPorts sessionPart_joinLive]

@[simp] theorem revolution_mem (a b : Option DrumState) (t0 v : Nat) (s : State) : (revolution a b t0 v s).mem = s.mem := by
  unfold revolution
  split
  · rfl
  · split <;> simp
  · unfold runRev
    dsimp only
    split <;> simp

@[simp] theorem lockChange_mem (st : DrumState) (s : State) : (lockChange st s).mem = s.mem := by
  unfold lockChange
  split_ifs
  · simp
  · rfl
  · refine mem_foldl (fun x p => ?_) _ _
    dsimp only
    split <;> simp
  · rfl

@[simp] theorem indexPulse_mem (s : State) : (indexPulse s).mem = s.mem := by
  unfold indexPulse
  dsimp only
  split_ifs <;> simp

@[simp] theorem tachPulse_mem (s : State) : (tachPulse s).mem = s.mem := by
  unfold tachPulse
  split_ifs <;> simp

@[simp] theorem openCover_mem (s : State) : (openCover s).mem = s.mem := by
  unfold openCover
  dsimp only
  split_ifs <;> simp

@[simp] theorem settleLamp_mem (s : State) : (settleLamp s).mem = s.mem := by
  unfold settleLamp
  split <;> simp

@[simp] theorem closeHome_mem (s : State) : (closeHome s).mem = s.mem := by
  unfold closeHome
  dsimp only
  split <;> simp

@[simp] theorem startLimitExpiry_mem (s : State) : (startLimitExpiry s).mem = s.mem := by
  unfold startLimitExpiry
  split
  · split
    · exact mem_foldl (fun x p => orderOut_mem p x) _ _
    · rfl
  · rfl

@[simp] theorem takeScan_mem (id : Nat) (k : Fin 16) (rpm advance : Nat) (live : List PortNo) (s : State) :
    (takeScan id k rpm advance live s).mem = s.mem := by
  rw [takeScan_eq id k rpm advance live s _ _ rfl rfl]

/-! #### The memory path

A grant starts a unit, which reaches memory at its end only (log 6). -/

@[simp] theorem grantDesk_mem (s : State) : (grantDesk s).mem = s.mem := by
  unfold grantDesk
  split
  · rfl
  · dsimp only
    split <;> rfl

@[simp] theorem grantFetch_mem (p : PortNo) (s : State) : (grantFetch p s).mem = s.mem := by
  unfold grantFetch
  split
  · rfl
  · split <;> rfl

@[simp] theorem grant_mem (r : Requester) (s : State) : (grant r s).mem = s.mem := by
  cases r with
  | desk => exact grantDesk_mem s
  | scanWriter =>
    simp only [grant, grantScanLine]
    split <;> rfl
  | lineFetch p => exact grantFetch_mem p s
  | statusWriter =>
    simp only [grant, grantStatus]
    split <;> rfl
  | intakeReader | setupLoader | slipWriter | trailerWriter => rfl

@[simp] theorem arbitrate_mem (s : State) : (arbitrate s).mem = s.mem := by
  unfold arbitrate
  split
  · split <;> simp
  · rfl

@[simp] theorem postSlot_mem (j : Nat) (s : State) : (postSlot j s).mem = s.mem := by
  unfold postSlot
  split <;> rfl

@[simp] theorem takeSlot_mem (i : Nat) (s : State) : (takeSlot i s).mem = s.mem := judgeWriter_mem _

@[simp] theorem startLoad_mem (s : State) : (startLoad s).mem = s.mem := by
  unfold startLoad
  split <;> rfl

/-! #### The part's own units, at and after their ends -/

@[simp] theorem completePicture_mem (k : Fin 16) (s : State) : (completePicture k s).mem = s.mem := by
  unfold completePicture
  split <;> simp

@[simp] theorem advanceMark_mem (e : LineEntry) (s : State) : (advanceMark e s).mem = s.mem := by
  simp only [advanceMark, completePicture_mem, mem_of_sessionPart (sessionPart_told e _), modPic_mem]

@[simp] theorem joinTrailers_mem (f : LineFailure) (s : State) : (joinTrailers f s).mem = s.mem := by
  unfold joinTrailers
  split <;> rfl

@[simp] theorem releaseHeldFailure_mem (s : State) : (releaseHeldFailure s).mem = s.mem := by
  unfold releaseHeldFailure
  split
  · split <;> simp
  · rfl

@[simp] theorem failFetch_mem (p : PortNo) (stood : Bool) (f : LineFailure) (s : State) : (failFetch p stood f s).mem = s.mem := by
  unfold failFetch passFailure
  dsimp only
  split_ifs <;> simp

@[simp] theorem endFetch_mem (p : PortNo) (pic : Fin 16) (line : Nat) (w : Bool) (trailerAddr : Nat) (dropped : Bool)
    (density trailer : List Byte) (s : State) :
    (endFetch p pic line w trailerAddr dropped density trailer s).mem = s.mem := by
  unfold endFetch
  dsimp only
  split
  · exact mem_of_sessionPart (sessionPart_unjoin _ _ _)
  · rw [mem_of_sessionPart (sessionPart_answerWaiters _ _ _ _)]
    split <;> simp

@[simp] theorem readerTake_mem (s : State) : (readerTake s).mem = s.mem := by
  unfold readerTake
  split
  · split <;> rfl
  · rfl

@[simp] theorem adopt_mem (l : Loader) (s : State) : (adopt l s).mem = s.mem := judgeWriter_mem _

@[simp] theorem afterPart_mem (part : Nat) (l : Loader) (s : State) : (afterPart part l s).mem = s.mem := by
  unfold afterPart
  split
  · rfl
  · split
    · rfl
    · split
      · rfl
      · exact adopt_mem l s

@[simp] theorem clockSecond_mem (s : State) : (clockSecond s).mem = s.mem := by
  unfold clockSecond
  split <;> rfl

/-! #### Job Intake -/

@[simp] theorem dispatchScan_mem (h : Hand) (id : Nat) (s : State) : (dispatchScan h id s).mem = s.mem := by
  have joined (x : State) (p : PortNo) (j : Job) : (activate p j true (giveWay p x)).mem = x.mem :=
    mem_of_sessionPart ((sessionPart_activate _ _ _ _).trans (sessionPart_giveWay p x))
  simp only [dispatchScan, openJobs, mem_foldl fun x p => joined x p _, takeScan_mem, modPic_mem]

@[simp] theorem dispatchSend_mem (h : Hand) (id : Nat) (s : State) : (dispatchSend h id s).mem = s.mem := by
  have taken : (openJobs 1 (takeRef (recSlot h.record) s)).mem = s.mem := rfl
  rw [← taken]
  refine mem_of_sessionPart ?_
  simp only [dispatchSend, sessionPart_service, sessionPart_select, sessionPart_checkPreempt, sessionPart_modPort, jobOf]

@[simp] theorem releasePicture_mem (k : Fin 16) (s : State) : (releasePicture k s).mem = s.mem := by
  simp only [releasePicture, releaseHeldFailure_mem, modStore_mem, modPic_mem, mem_forPorts (sessionPart_detachTransfer k)]

theorem dispatchHoldPort_mem (h : Hand) (s : State) : (dispatchHoldPort h s).mem = s.mem := by
  refine mem_of_sessionPart ?_
  unfold dispatchHoldPort
  dsimp only
  split_ifs <;> simp only [sessionPart_service, sessionPart_rejudge, sessionPart_withdrawLive, sessionPart_withdrawWaiting,
    sessionPart_modPort]

theorem dispatchResumePort_mem (h : Hand) (s : State) : (dispatchResumePort h s).mem = s.mem := by
  refine mem_of_sessionPart ?_
  unfold dispatchResumePort
  dsimp only
  split_ifs <;> simp only [sessionPart_service, sessionPart_select, sessionPart_checkHead, sessionPart_resumeHeld,
    sessionPart_modPort]

@[simp] theorem dispatch_mem (k : JobKind) (h : Hand) (id : Nat) (s : State) : (dispatch k h id s).mem = s.mem := by
  cases k with
  | scan => exact dispatchScan_mem h id s
  | send => exact dispatchSend_mem h id s
  | abortJob => simp only [dispatch, dispatchAbortJob, mem_forPorts (sessionPart_abortPort _)]
  | abortPicture => simp only [dispatch, dispatchAbortPicture, mem_forPorts (sessionPart_abortPort _), cutPicture_mem]
  | releasePicture =>
    simp only [dispatch, dispatchReleasePicture]
    split <;> simp
  | holdPort => exact dispatchHoldPort_mem h s
  | resumePort => exact dispatchResumePort_mem h s

@[simp] theorem answer_mem (h : Hand) (result : List Byte) (s : State) : (answer h result s).mem = s.mem := by
  unfold answer
  split <;> rfl

@[simp] theorem judgeJob_mem (h : Hand) (s : State) : (judgeJob h s).mem = s.mem := by
  unfold judgeJob
  split <;> simp

/-- R14, log 6: a unit that only reads leaves memory alone at its end. -/
@[simp] theorem finishRead_mem (addr : Nat) (s : State) : (finishRead addr s).mem = s.mem := rfl

@[simp] theorem endJobRead_mem (s : State) : (endJobRead s).mem = s.mem := by
  unfold endJobRead
  split
  · dsimp only
    split <;> simp
  · rfl

@[simp] theorem takenJob_mem (k : JobKind) (s : State) : (takenJob k s).mem = s.mem := by
  obtain same | ⟨addr, h, -, -, -, -, judged⟩ := takenJob_cases k s
  · rw [same]
  · rw [judged, judgeJob_mem, finishRead_mem]

/-! ### What a command writes -/

/-- R18, log 6: memory stands, or has the first accesses of the unit in progress, all of them where the unit has ended. -/
def WritesUnit (a b : State) : Prop :=
  b.mem = a.mem ∨ ∃ u n, a.unit = some u ∧ b.mem = applyAccesses a.mem ((unitAccesses a u).take n)

/-- The end of the unit in progress makes all its accesses. -/
theorem WritesUnit.ended {a b : State} {u : BusUnit} (inProgress : a.unit = some u) (same : b.mem = (endUnit u a).mem) :
    WritesUnit a b := by
  refine .inr ⟨u, (unitAccesses a u).length, inProgress, ?_⟩
  rw [List.take_length, same, endUnit_mem]

/-- The passing of time leaves the unit in progress and its accesses as they are. -/
theorem WritesUnit.of_advance {t : Nat} {s b : State} (writes : WritesUnit (advance t s) b) : WritesUnit s b := by
  have accesses (u : BusUnit) : unitAccesses (advance t s) u = unitAccesses s u := rfl
  simpa only [WritesUnit, advance_mem, advance_unit, accesses] using writes

/-- Accesses keep the canonical form, so what a command writes keeps it. -/
theorem WritesUnit.canonical {a b : State} (writes : WritesUnit a b) (canonical : MemoryInv a) : MemoryInv b := by
  unfold MemoryInv at canonical ⊢
  obtain same | ⟨u, n, -, made⟩ := writes
  · rwa [same]
  · rw [made]
    exact wf_applyAccesses _ _ canonical

theorem writesUnit_endForward {read : Bool} {want : WatchEvent → Bool} {f : WatchEvent → State → State}
    (each : ∀ e x, (f e x).mem = x.mem) (s : State) : WritesUnit s (endForward read want f s) := by
  unfold endForward
  split
  next a e inProgress =>
    split
    · exact .inl rfl
    · exact .ended inProgress (each _ _)
  next => exact .inl rfl

theorem writesUnit_endUpkeep (composed : List Nat) (s : State) : WritesUnit s (endUpkeep composed s) := by
  unfold endUpkeep
  split
  next a k n lineAddr stride picSamples inProgress =>
    refine .ended inProgress ?_
    simp only [mem_forPorts (sessionPart_tellAltered _ _), modPic_mem, modStore_mem,
      mem_forPorts (sessionPart_patchTransfer _ _ _ _ _ _)]
  next => exact .inl rfl

theorem writesUnit_endScanLine (s : State) : WritesUnit s (endScanLine s) := by
  unfold endScanLine
  split
  next b lineAddr inProgress =>
    refine .ended inProgress ?_
    split
    · rfl
    · dsimp only [freeBuffer]
      rw [modPipe_mem]
      split
      · exact advanceMark_mem _ _
      · rfl
  next => exact .inl rfl

theorem writesUnit_endLineFetch (s : State) : WritesUnit s (endLineFetch s) := by
  unfold endLineFetch
  split
  next inProgress =>
    refine .ended inProgress ?_
    rw [mem_forPorts sessionPart_service, endFetch_mem]
  next => exact .inl rfl

theorem writesUnit_endTrailerFlag (s : State) : WritesUnit s (endTrailerFlag s) := by
  unfold endTrailerFlag
  split
  next f inProgress => exact .ended inProgress (releaseHeldFailure_mem _)
  next => exact .inl rfl

theorem writesUnit_endSlipWrite (s : State) : WritesUnit s (endSlipWrite s) := by
  unfold endSlipWrite
  split
  next i addr bytes inProgress =>
    refine .ended inProgress ?_
    dsimp only
    split
    · rfl
    · rw [judgeWriter_mem]
      split
      · rw [mem_of_sessionPart (sessionPart_portFreed _ _)]
        rfl
      · rfl
  next => exact .inl rfl

theorem writesUnit_endStatusWrite (s : State) : WritesUnit s (endStatusWrite s) := by
  unfold endStatusWrite
  split
  next i addr bytes count inProgress => exact .ended inProgress rfl
  next => exact .inl rfl

theorem writesUnit_endResultWrite (s : State) : WritesUnit s (endResultWrite s) := by
  unfold endResultWrite
  split
  next addr bytes inProgress => exact .ended inProgress rfl
  next => exact .inl rfl

theorem writesUnit_endSetupPart (s : State) : WritesUnit s (endSetupPart s) := by
  unfold endSetupPart
  split
  next part inProgress => exact .ended inProgress (afterPart_mem _ _ _)
  next => exact .inl rfl

theorem writesUnit_endLoadResult (s : State) : WritesUnit s (endLoadResult s) := by
  unfold endLoadResult
  split
  next bytes inProgress => exact .ended inProgress rfl
  next => exact .inl rfl

/-! ### Every command -/

/-- The effect of a command other than the end of a unit leaves memory alone; the end of a unit makes that unit's accesses. -/
theorem writesUnit_effectOf (c : Instr) (s : State) : WritesUnit s (effectOf c s) := by
  have guarded {p : Prop} [Decidable p] {x : State} (same : x.mem = s.mem) : (if p then x else s).mem = s.mem := by
    split
    · exact same
    · rfl
  cases c with
  | powerOn | warmReset | resetRelease | deskAccess | deskClockSecond | reportDiscarded => exact .inl rfl
  | arbiterGrant t => exact .inl (arbitrate_mem s)
  | deskWrite | deskRead => exact writesUnit_endForward (fun _ _ => rfl) s
  | postWordWrite t =>
    rw [effectOf]
    refine writesUnit_endForward (fun e x => ?_) s
    cases e with
    | post j => exact postSlot_mem j x
    | _ => rfl
  | markWordWrite t =>
    rw [effectOf]
    refine writesUnit_endForward (fun e x => ?_) s
    cases e with
    | mark i => exact takeSlot_mem i x
    | _ => rfl
  | loadWordWrite t => exact writesUnit_endForward (fun _ x => startLoad_mem x) s
  | clearWordWrite t =>
    rw [effectOf]
    refine writesUnit_endForward (fun e x => ?_) s
    cases e <;> rfl
  | checkUpkeepUnitEnd t composed => exact writesUnit_endUpkeep composed s
  | scanLineWriteEnd t => exact writesUnit_endScanLine s
  | lineFetchEnd t => exact writesUnit_endLineFetch s
  | trailerFlagUnitEnd t => exact writesUnit_endTrailerFlag s
  | slipRecordWriteEnd t => exact writesUnit_endSlipWrite s
  | statusRecordWriteEnd t => exact writesUnit_endStatusWrite s
  | resultWordWriteEnd t => exact writesUnit_endResultWrite s
  | setupPartReadEnd t => exact writesUnit_endSetupPart s
  | loadResultWriteEnd t => exact writesUnit_endLoadResult s
  | intakeReaderTake t => exact .inl (readerTake_mem s)
  | jobRecordReadEnd t => exact .inl (endJobRead_mem s)
  | scan | send | abortJob | abortPicture | releasePicture | holdPort | resumePort => exact .inl (takenJob_mem _ s)
  | tachPulse t => exact .inl (tachPulse_mem s)
  | indexPulse t => exact .inl (guarded (indexPulse_mem s))
  | conversionRequest | codeReady | coverClose | homeSwitchOpen | homingStep | carriageStep => exact .inl rfl
  | stallTimerExpiry | spinUpTimerExpiry | slipTimerExpiry | homingLimitExpiry => exact .inl (guarded (drumFault_mem _ s))
  | idleSpinTimerExpiry | coastTimerExpiry => exact .inl (guarded rfl)
  | coverOpen t => exact .inl (openCover_mem s)
  | settleTimerExpiry t => exact .inl (settleLamp_mem s)
  | homeSwitchClose t => exact .inl (closeHome_mem s)
  | startLimitTimerExpiry t => exact .inl (startLimitExpiry_mem s)
  | frameTransferEnd t p => exact .inl (mem_of_sessionPart (sessionPart_frameEnd p s))
  | up t p => exact .inl (mem_of_sessionPart (sessionPart_takeUp p s))
  | fail t p cause => exact .inl (mem_of_sessionPart (sessionPart_takeFail p cause s))
  | doneItem t p => exact .inl (mem_of_sessionPart (sessionPart_takeDoneItem p s))
  | doneFlush t p => exact .inl (mem_of_sessionPart (sessionPart_takeDoneFlush p s))
  | slack t p => exact .inl (mem_of_sessionPart (sessionPart_takeSlack p s))
  | heard t p code duration data => exact .inl (mem_of_sessionPart (sessionPart_takeHeard p code duration.toNat data s))
  | ready t p | phased t p | goodA t p | goodB t p | again t p | wait t p | receipt t p | hang t p =>
    exact .inl (mem_of_sessionPart (sessionPart_hearSignal p _ _ s))
  | dropCarrier t p => exact .inl (mem_of_sessionPart (sessionPart_takeDropCarrier p s))
  | dropOnHook t p => exact .inl (mem_of_sessionPart (sessionPart_takeDropOnHook p s))
  | releaseTimerExpiry t p => exact .inl (mem_of_sessionPart (sessionPart_releaseExpiry p s))
  | seizeTimerExpiry t p => exact .inl (expire_mem .seize (f := fun p => endSession p .lineFailed 0) (sessionPart_endSession p _ _) s)
  | readyTimerExpiry t p => exact .inl (expire_mem .ready (f := fun p => endSession p .noAnswer 0) (sessionPart_endSession p _ _) s)
  | phasedTimerExpiry t p => exact .inl (expire_mem .phased (sessionPart_phasedExpiry p) s)
  | verdictTimerExpiry t p => exact .inl (expire_mem .verdict (sessionPart_verdictExpiry p) s)
  | waitTimerExpiry t p => exact .inl (expire_mem .wait (sessionPart_waitExpiry p) s)
  | quietTimerExpiry t p => exact .inl (expire_mem .quiet (sessionPart_bandStart p) s)
  | receiptTimerExpiry t p => exact .inl (expire_mem .receipt (f := fun p => endClose p false) (sessionPart_endClose p _) s)

/-- R18: a warm reset lets the accesses made stay in memory. -/
theorem writesUnit_warmed (made : Nat) (s : State) : WritesUnit s (warmed made s) := by
  cases inProgress : s.unit with
  | none => exact .inl (by simp [warmed, madeAccesses, inProgress, applyAccesses])
  | some u => exact .inr ⟨u, max 1 made, inProgress, by simp only [warmed, madeAccesses, inProgress]⟩

/-- Memory changes only by accesses of the unit in progress, whatever the command. -/
theorem writesUnit_exec {s s' : State} {c : Instr} (next : exec c s = .next s') : WritesUnit s s' := by
  cases wraps : unwrapped c with
  | false =>
    rw [exec_effectOf c s wraps, act] at next
    cases next
    refine WritesUnit.of_advance (t := timeOf c) ?_
    split
    · exact .inl rfl
    · have effect := writesUnit_effectOf c (advance (timeOf c) s)
      rwa [WritesUnit, noteChanges_mem]
  | true =>
    cases c with
    | powerOn t =>
      cases next
      exact .inl rfl
    | warmReset t made =>
      cases next
      refine WritesUnit.of_advance (t := t) ?_
      split
      · exact .inl rfl
      · exact writesUnit_warmed made _
    | resetRelease | deskAccess =>
      cases next
      refine .inl ?_
      dsimp only
      split <;> rfl
    | deskClockSecond t =>
      cases next
      refine .inl ?_
      split <;> simp
    | _ => exact absurd wraps Bool.false_ne_true

/-- Settles O55: a step leaves memory alone or makes accesses of the unit in progress, and an access keeps the canonical form. -/
theorem memoryStaysCanonical : Obligations.MemoryStaysCanonical := by
  intro s s' canonical next
  obtain same | ⟨c, rest, -, ran⟩ := step_cases next
  · rwa [same]
  · have popped : MemoryInv { s with pending := rest } := canonical
    exact (writesUnit_exec ran).canonical popped

end Sys2Proof.Machine
end
